-- ==== Sys2Proof/Word.lean ====
section
/-! DEFINITION. The word types of the PPU (spec/00_scope.md R8, R9): unsigned bit fields, and the Color triple. -/

namespace Sys2Proof

/-- `u8`: coordinates, `TileIndex`, `OamIndex`, `PaletteIndex`, attribute bytes, tile rows (R9). -/
abbrev Byte := BitVec 8

/-- One host command word, `cmd[47:0]` (R96). -/
abbrev CmdWord := BitVec 48

/-- A Color, "a 24-bit RGB triple": three 8-bit components, red first (R9, R63, R95). -/
structure Color where
  r : Byte
  g : Byte
  b : Byte
deriving DecidableEq, Repr

end Sys2Proof
end

