-- ==== Sys2Proof/Config.lean ====
section
/-! DEFINITION. What is fixed when the hardware is built (spec/00_scope.md R6, R7, R13), and the free values. -/

namespace Sys2Proof

/-- The legal values of the parameter `NUM_LAYERS` (R7: "OPEN ... legal values 2 and 3"). -/
inductive LayerCount where
  | two
  | three
deriving DecidableEq, Repr, Inhabited

namespace Config

/-- `NUM_LAYERS` as this PPU was built, left open by the spec (R7, R13, D2): a constant with no body, so every
statement holds for both values. Log 1. -/
opaque layerCount : LayerCount

/-- `NUM_LAYERS` as a number, 2 or 3 (R7). -/
def numLayers : Nat :=
  match layerCount with
  | .two => 2
  | .three => 3

/-- Whether background layer 2 exists, that is, `NUM_LAYERS = 3`. -/
def hasThirdLayer : Bool :=
  match layerCount with
  | .two => false
  | .three => true

/-- `SCREEN_WIDTH` (R7, decision D1). Log 2. -/
def screenWidth : Nat := 192

/-- `SCREEN_HEIGHT` (R7, decision D1). Log 2. -/
def screenHeight : Nat := 160

/-- FREE VALUE: the 24-bit Color field `{r, g, b}` that `FB[x][y]` holds after reset, before the first completed
`RENDER_FRAME` (R36, R38, 93_implementation_defined.md U1: "any value ... Never zero"). No body. Log 13. -/
opaque freePixel (x y : Nat) : BitVec 24

end Config

end Sys2Proof
end

