-- ==== Sys2Proof/Syntax.lean ====
section
/-! DEFINITION. The fifteen host commands, one constructor per row of spec/opcode_table.json (spec/30_encoding.md R98).
Operands stand in the order of R101 and have the widths of R97; a layer number 3 and a plane number 3, which R99
reserves on every PPU, cannot be written. -/

namespace Sys2Proof

/-- A background layer number 0..2 (R7, R97: `layer`); whether layer 2 exists is `LayerId.present`. -/
inductive LayerId where
  | bg0
  | bg1
  | bg2
deriving DecidableEq, Repr

/-- A bitplane number 0..2 (R32, R97: "`plane` is 2 bits of which 0, 1, 2 are legal"). -/
inductive PlaneId where
  | plane0
  | plane1
  | plane2
deriving DecidableEq, Repr

/-- A host command with its operands. -/
inductive Instr where
  /-- `POKE_TILE layer, tx, ty, data` (R212) -/
  | pokeTile (layer : LayerId) (tx ty : BitVec 5) (data : Byte)
  /-- `POKE_ATTR layer, tx, ty, data` (R213) -/
  | pokeAttr (layer : LayerId) (tx ty : BitVec 5) (data : Byte)
  /-- `SET_SCROLL layer, x, y` (R214) -/
  | setScroll (layer : LayerId) (x y : Byte)
  /-- `SET_HIDDEN layer, flag` (R215) -/
  | setHidden (layer : LayerId) (flag : Bool)
  /-- `SET_SPRITE idx, x, y, tile, attr` (R216) -/
  | setSprite (idx x y tile attr : Byte)
  /-- `HIDE_SPRITE idx` (R217) -/
  | hideSprite (idx : Byte)
  /-- `SET_PALETTE pidx, r, g, b` (R218) -/
  | setPalette (pidx : BitVec 6) (r g b : Byte)
  /-- `SET_TILE_ROW plane, tile, row, data` (R219) -/
  | setTileRow (plane : PlaneId) (tile : Byte) (row : BitVec 3) (data : Byte)
  /-- `SET_BGCOLOR pidx` (R220) -/
  | setBgcolor (pidx : BitVec 6)
  /-- `SET_HIDE_SPRITES flag` (R221) -/
  | setHideSprites (flag : Bool)
  /-- `PEEK_TILE layer, tx, ty` (R222) -/
  | peekTile (layer : LayerId) (tx ty : BitVec 5)
  /-- `PEEK_ATTR layer, tx, ty` (R223) -/
  | peekAttr (layer : LayerId) (tx ty : BitVec 5)
  /-- `READ_PIXEL x, y` (R224) -/
  | readPixel (x y : Byte)
  /-- `READ_PIXEL_ARGB x, y` (R225) -/
  | readPixelArgb (x y : Byte)
  /-- `RENDER_FRAME` (R226) -/
  | renderFrame
deriving DecidableEq, Repr

end Sys2Proof
end

