-- ==== Sys2Proof/Machine/Operands.lean ====
section
/-! DEFINITION. Operands: the value conditions of spec/30_encoding.md R99, the primitives of spec/00_scope.md R10, the fields of the attribute byte
(spec/30_encoding.md R90), the index of an entry in each memory space (R92, R93, 10_state.md R32) and the colour
formats (R95, 43_compositor.md R186). -/

namespace Sys2Proof

/-! ### The value conditions of a legal command (R99) -/

/-- The layer number, 0, 1 or 2. -/
def LayerId.number : LayerId → Nat
  | .bg0 => 0
  | .bg1 => 1
  | .bg2 => 2

/-- `layer < NUM_LAYERS` (R99 case 3): layers 0 and 1 always exist, layer 2 when `NUM_LAYERS = 3`. Written by cases
so that a command about layer 0 or 1 evaluates whatever the open parameter is (`LayerId.present_iff`). -/
def LayerId.present : LayerId → Bool
  | .bg0 => true
  | .bg1 => true
  | .bg2 => Config.hasThirdLayer

/-- `x < SCREEN_WIDTH` and `y < SCREEN_HEIGHT` (R99 case 5). -/
def onScreen (x y : Byte) : Bool :=
  decide (x.toNat < Config.screenWidth) && decide (y.toNat < Config.screenHeight)

end Sys2Proof

namespace Sys2Proof.Machine

open Sys2Proof

/-! ### Wrapping coordinate arithmetic (R10) -/

/-- `sub8(a, b) = (a - b) mod 256`. -/
def sub8 (a b : Byte) : Byte := a - b

/-- `a div 8 = a[7:3]`. -/
def div8 (a : Byte) : BitVec 5 := a.extractLsb' 3 5

/-- `a mod 8 = a[2:0]`. -/
def mod8 (a : Byte) : BitVec 3 := a.extractLsb' 0 3

/-- `7 - v` for a coordinate within a tile. -/
def flip3 (v : BitVec 3) : BitVec 3 := 7#3 - v

/-- The wrapping test of a sprite's 8-pixel box: coordinate `c` lies in the box that begins at `c0` exactly when
`sub8(c, c0) < 8` (R161, R162, decision D16). -/
def inBox (c c0 : Byte) : Bool := decide (sub8 c c0 < 8#8)

/-! ### The attribute byte (R90) -/

/-- Bits 7:6, priority, 3 frontmost. -/
def attrPrio (a : Byte) : BitVec 2 := a.extractLsb' 6 2

/-- Bit 5, flip-y. -/
def attrFlipY (a : Byte) : Bool := a.getLsbD 5

/-- Bit 4, flip-x. -/
def attrFlipX (a : Byte) : Bool := a.getLsbD 4

/-- Bit 3, flip-diagonal. -/
def attrFlipDiag (a : Byte) : Bool := a.getLsbD 3

/-- Bits 2:0, subpalette. -/
def attrSub (a : Byte) : BitVec 3 := a.extractLsb' 0 3

/-! ### Indices -/

/-- The tile-grid address `(tx + ty * 32) mod 1024` (R93): the sum of 10-bit values wraps modulo 1024. -/
def cellAddr (tx ty : BitVec 5) : BitVec 10 := tx.setWidth 10 + ty.setWidth 10 * 32#10

/-- The model's key of the row byte `(tile, row)` within one plane (R32; unobservable, log 15). -/
def tileKey (tile : Byte) (row : BitVec 3) : Nat := tile.toNat * 8 + row.toNat

/-- The `PaletteIndex` of a hit, `subpalette * 8 + raw`, zero-extended to 8 bits (R92). -/
def hitIndex (sub raw : BitVec 3) : Byte := sub.setWidth 8 * 8#8 + raw.setWidth 8

/-- Column `x` of a plane's row byte is bit `x`, counted from the least significant (R62, R91, decision D4). -/
def rowPixel (rowByte : Byte) (x : BitVec 3) : Bool := rowByte.getLsbD x.toNat

/-- The raw pixel of three plane bits, plane 0 the most significant (R61, R123). -/
def rawPixel (b0 b1 b2 : Bool) : BitVec 3 := BitVec.ofBool b0 ++ BitVec.ofBool b1 ++ BitVec.ofBool b2

/-! ### Colours -/

/-- A Color as the 24-bit field `{r, g, b}` (R95). -/
def colorBits (c : Color) : BitVec 24 := c.r ++ c.g ++ c.b

/-- The Color whose 24-bit field is given (R95). -/
def colorOfBits (v : BitVec 24) : Color :=
  { r := v.extractLsb' 16 8, g := v.extractLsb' 8 8, b := v.extractLsb' 0 8 }

/-- `to_argb(col)`: the packed word `{0xFF, r, g, b}` (R186, decision D7). -/
def toArgb (c : Color) : BitVec 32 := 0xFF#8 ++ c.r ++ c.g ++ c.b

end Sys2Proof.Machine
end

