-- ==== Sys2Proof/WellFormed.lean ====
section
/-! DEFINITION. The value conditions of spec/30_encoding.md R99 that the operand types do not already enforce:
case 3 (`layer < NUM_LAYERS`) and case 5 (pixel coordinates on the screen). The two checks are `LayerId.present` and
`onScreen` of Machine/Operands.lean. -/

namespace Sys2Proof

/-- The command is not a reserved encoding: the value conditions of R99 hold. -/
def Instr.wellFormed : Instr → Bool
  | .pokeTile layer _ _ _ => layer.present
  | .pokeAttr layer _ _ _ => layer.present
  | .setScroll layer _ _ => layer.present
  | .setHidden layer _ => layer.present
  | .setSprite _ _ _ _ _ => true
  | .hideSprite _ => true
  | .setPalette _ _ _ _ => true
  | .setTileRow _ _ _ _ => true
  | .setBgcolor _ => true
  | .setHideSprites _ => true
  | .peekTile layer _ _ => layer.present
  | .peekAttr layer _ _ => layer.present
  | .readPixel x y => onScreen x y
  | .readPixelArgb x y => onScreen x y
  | .renderFrame => true

end Sys2Proof
end

