-- ==== Sys2Proof/Decode.lean ====
section
/-! DEFINITION. The command word: decoder, encoder, opcode table (spec/30_encoding.md R96 to R100) and the text form of
a command (R101). -/

namespace Sys2Proof

/-! ### Fields -/

/-- The field of `len` bits of `cmd` whose lowest bit is bit `lo` (R8, R97). -/
def field (w : CmdWord) (lo len : Nat) : BitVec len := w.extractLsb' lo len

/-- A word that holds `v` with its lowest bit at bit `lo`, and 0 elsewhere. -/
def place {n : Nat} (lo : Nat) (v : BitVec n) : CmdWord := v.setWidth 48 <<< lo

/-- The opcode, bits 47:40 (R96). -/
def opcodeField (w : CmdWord) : Byte := field w 40 8

/-- The layer a 2-bit `layer` field names; 3 names none on any PPU (R99 case 3). -/
def layerOfBits (v : BitVec 2) : Option LayerId :=
  if v = 0#2 then some .bg0 else if v = 1#2 then some .bg1 else if v = 2#2 then some .bg2 else none

/-- The 2-bit `layer` field of a layer. -/
def layerBits : LayerId → BitVec 2
  | .bg0 => 0#2
  | .bg1 => 1#2
  | .bg2 => 2#2

/-- The plane a 2-bit `plane` field names; 3 names none (R99 case 4). -/
def planeOfBits (v : BitVec 2) : Option PlaneId :=
  if v = 0#2 then some .plane0 else if v = 1#2 then some .plane1 else if v = 2#2 then some .plane2 else none

/-- The 2-bit `plane` field of a plane. -/
def planeBits : PlaneId → BitVec 2
  | .plane0 => 0#2
  | .plane1 => 1#2
  | .plane2 => 2#2

/-- A 1-bit `flag` field read as a flag. -/
def flagOfBit (v : BitVec 1) : Bool := v.getLsbD 0

/-! ### Formats (R97): must-be-zero bits first, then the fields -/

/-- Format N: no field, 39:0 must be zero. -/
def decodeN (w : CmdWord) (i : Instr) : Option Instr :=
  if field w 0 40 = 0#40 then some i else none

/-- Format C: `layer` 19:18, `ty` 17:13, `tx` 12:8, `data` 7:0. -/
def decodeC (w : CmdWord) (mk : LayerId → BitVec 5 → BitVec 5 → Byte → Instr) : Option Instr :=
  if field w 20 20 = 0#20 then
    (layerOfBits (field w 18 2)).map fun layer => mk layer (field w 8 5) (field w 13 5) (field w 0 8)
  else none

/-- Format CR: `layer` 19:18, `ty` 17:13, `tx` 12:8. -/
def decodeCR (w : CmdWord) (mk : LayerId → BitVec 5 → BitVec 5 → Instr) : Option Instr :=
  if field w 20 20 = 0#20 ∧ field w 0 8 = 0#8 then
    (layerOfBits (field w 18 2)).map fun layer => mk layer (field w 8 5) (field w 13 5)
  else none

/-- Format S: `layer` 17:16, `x` 15:8, `y` 7:0. -/
def decodeS (w : CmdWord) (mk : LayerId → Byte → Byte → Instr) : Option Instr :=
  if field w 18 22 = 0#22 then
    (layerOfBits (field w 16 2)).map fun layer => mk layer (field w 8 8) (field w 0 8)
  else none

/-- Format F: `layer` 9:8, `flag` 0. -/
def decodeF (w : CmdWord) (mk : LayerId → Bool → Instr) : Option Instr :=
  if field w 10 30 = 0#30 ∧ field w 1 7 = 0#7 then
    (layerOfBits (field w 8 2)).map fun layer => mk layer (flagOfBit (field w 0 1))
  else none

/-- Format O: `idx` 39:32, `x` 31:24, `y` 23:16, `tile` 15:8, `attr` 7:0; no bit must be zero. -/
def decodeO (w : CmdWord) (mk : Byte → Byte → Byte → Byte → Byte → Instr) : Option Instr :=
  some (mk (field w 32 8) (field w 24 8) (field w 16 8) (field w 8 8) (field w 0 8))

/-- Format OI: `idx` 39:32. -/
def decodeOI (w : CmdWord) (mk : Byte → Instr) : Option Instr :=
  if field w 0 32 = 0#32 then some (mk (field w 32 8)) else none

/-- Format P: `pidx` 29:24, `r` 23:16, `g` 15:8, `b` 7:0. -/
def decodeP (w : CmdWord) (mk : BitVec 6 → Byte → Byte → Byte → Instr) : Option Instr :=
  if field w 30 10 = 0#10 then some (mk (field w 24 6) (field w 16 8) (field w 8 8) (field w 0 8)) else none

/-- Format T: `plane` 20:19, `tile` 18:11, `row` 10:8, `data` 7:0. -/
def decodeT (w : CmdWord) (mk : PlaneId → Byte → BitVec 3 → Byte → Instr) : Option Instr :=
  if field w 21 19 = 0#19 then
    (planeOfBits (field w 19 2)).map fun plane => mk plane (field w 11 8) (field w 8 3) (field w 0 8)
  else none

/-- Format B: `pidx` 5:0. -/
def decodeB (w : CmdWord) (mk : BitVec 6 → Instr) : Option Instr :=
  if field w 6 34 = 0#34 then some (mk (field w 0 6)) else none

/-- Format G: `flag` 0. -/
def decodeG (w : CmdWord) (mk : Bool → Instr) : Option Instr :=
  if field w 1 39 = 0#39 then some (mk (flagOfBit (field w 0 1))) else none

/-- Format X: `x` 15:8, `y` 7:0. -/
def decodeX (w : CmdWord) (mk : Byte → Byte → Instr) : Option Instr :=
  if field w 16 24 = 0#24 then some (mk (field w 8 8) (field w 0 8)) else none

/-! ### The decoder (R98, R99, R100) -/

/-- The command by opcode, its must-be-zero bits and its field widths checked (R98, R99 cases 1, 2, 4 and `layer = 3`). -/
def decodeOperands (w : CmdWord) : Option Instr :=
  match (opcodeField w).toNat with
  | 0x01 => decodeC w .pokeTile
  | 0x02 => decodeC w .pokeAttr
  | 0x03 => decodeS w .setScroll
  | 0x04 => decodeF w .setHidden
  | 0x05 => decodeO w .setSprite
  | 0x06 => decodeOI w .hideSprite
  | 0x07 => decodeP w .setPalette
  | 0x08 => decodeT w .setTileRow
  | 0x09 => decodeB w .setBgcolor
  | 0x0A => decodeG w .setHideSprites
  | 0x10 => decodeCR w .peekTile
  | 0x11 => decodeCR w .peekAttr
  | 0x12 => decodeX w .readPixel
  | 0x13 => decodeX w .readPixelArgb
  | 0x20 => decodeN w .renderFrame
  | _ => none

/-- The command a word is, or `none` for a reserved word (R99, R100). -/
def decode (w : CmdWord) : Option Instr :=
  match decodeOperands w with
  | some i => if i.wellFormed then some i else none
  | none => none

/-! ### The encoder (R97, R98) -/

/-- The word of a command: its opcode and its fields, each at its place, every other bit 0. -/
def encode : Instr → CmdWord
  | .pokeTile layer tx ty data =>
      place 40 0x01#8 ||| place 18 (layerBits layer) ||| place 13 ty ||| place 8 tx ||| place 0 data
  | .pokeAttr layer tx ty data =>
      place 40 0x02#8 ||| place 18 (layerBits layer) ||| place 13 ty ||| place 8 tx ||| place 0 data
  | .setScroll layer x y => place 40 0x03#8 ||| place 16 (layerBits layer) ||| place 8 x ||| place 0 y
  | .setHidden layer flag => place 40 0x04#8 ||| place 8 (layerBits layer) ||| place 0 (BitVec.ofBool flag)
  | .setSprite idx x y tile attr =>
      place 40 0x05#8 ||| place 32 idx ||| place 24 x ||| place 16 y ||| place 8 tile ||| place 0 attr
  | .hideSprite idx => place 40 0x06#8 ||| place 32 idx
  | .setPalette pidx r g b => place 40 0x07#8 ||| place 24 pidx ||| place 16 r ||| place 8 g ||| place 0 b
  | .setTileRow plane tile row data =>
      place 40 0x08#8 ||| place 19 (planeBits plane) ||| place 11 tile ||| place 8 row ||| place 0 data
  | .setBgcolor pidx => place 40 0x09#8 ||| place 0 pidx
  | .setHideSprites flag => place 40 0x0A#8 ||| place 0 (BitVec.ofBool flag)
  | .peekTile layer tx ty => place 40 0x10#8 ||| place 18 (layerBits layer) ||| place 13 ty ||| place 8 tx
  | .peekAttr layer tx ty => place 40 0x11#8 ||| place 18 (layerBits layer) ||| place 13 ty ||| place 8 tx
  | .readPixel x y => place 40 0x12#8 ||| place 8 x ||| place 0 y
  | .readPixelArgb x y => place 40 0x13#8 ||| place 8 x ||| place 0 y
  | .renderFrame => place 40 0x20#8

/-! ### The opcode table as spec/opcode_table.json prints it -/

/-- The row's `mask`: the opcode and must-be-zero bits of the command's format. -/
def tableMask : Instr → CmdWord
  | .pokeTile _ _ _ _ => 0xFFFFFFF00000#48
  | .pokeAttr _ _ _ _ => 0xFFFFFFF00000#48
  | .setScroll _ _ _ => 0xFFFFFFFC0000#48
  | .setHidden _ _ => 0xFFFFFFFFFCFE#48
  | .setSprite _ _ _ _ _ => 0xFF0000000000#48
  | .hideSprite _ => 0xFF00FFFFFFFF#48
  | .setPalette _ _ _ _ => 0xFFFFC0000000#48
  | .setTileRow _ _ _ _ => 0xFFFFFFE00000#48
  | .setBgcolor _ => 0xFFFFFFFFFFC0#48
  | .setHideSprites _ => 0xFFFFFFFFFFFE#48
  | .peekTile _ _ _ => 0xFFFFFFF000FF#48
  | .peekAttr _ _ _ => 0xFFFFFFF000FF#48
  | .readPixel _ _ => 0xFFFFFFFF0000#48
  | .readPixelArgb _ _ => 0xFFFFFFFF0000#48
  | .renderFrame => 0xFFFFFFFFFFFF#48

/-- The row's `match`: what those bits are. -/
def tableMatch : Instr → CmdWord
  | .pokeTile _ _ _ _ => 0x010000000000#48
  | .pokeAttr _ _ _ _ => 0x020000000000#48
  | .setScroll _ _ _ => 0x030000000000#48
  | .setHidden _ _ => 0x040000000000#48
  | .setSprite _ _ _ _ _ => 0x050000000000#48
  | .hideSprite _ => 0x060000000000#48
  | .setPalette _ _ _ _ => 0x070000000000#48
  | .setTileRow _ _ _ _ => 0x080000000000#48
  | .setBgcolor _ => 0x090000000000#48
  | .setHideSprites _ => 0x0A0000000000#48
  | .peekTile _ _ _ => 0x100000000000#48
  | .peekAttr _ _ _ => 0x110000000000#48
  | .readPixel _ _ => 0x120000000000#48
  | .readPixelArgb _ _ => 0x130000000000#48
  | .renderFrame => 0x200000000000#48

/-! ### The host's entry -/

/-- The command word of `nbits` bits given as a number; bit 0 is the least significant (R8), bits above are 0. Log 10. -/
def tableWord (nbits w : Nat) : CmdWord := BitVec.ofNat 48 (w % 2 ^ nbits)

/-- What the decoder reads from a word numbered as spec/opcode_table.json numbers it. -/
def decodeTableWord (nbits w : Nat) : Option Instr := decode (tableWord nbits w)

/-! ### Text (R101) -/

/-- The command's mnemonic (R98). -/
def mnemonic : Instr → String
  | .pokeTile _ _ _ _ => "POKE_TILE"
  | .pokeAttr _ _ _ _ => "POKE_ATTR"
  | .setScroll _ _ _ => "SET_SCROLL"
  | .setHidden _ _ => "SET_HIDDEN"
  | .setSprite _ _ _ _ _ => "SET_SPRITE"
  | .hideSprite _ => "HIDE_SPRITE"
  | .setPalette _ _ _ _ => "SET_PALETTE"
  | .setTileRow _ _ _ _ => "SET_TILE_ROW"
  | .setBgcolor _ => "SET_BGCOLOR"
  | .setHideSprites _ => "SET_HIDE_SPRITES"
  | .peekTile _ _ _ => "PEEK_TILE"
  | .peekAttr _ _ _ => "PEEK_ATTR"
  | .readPixel _ _ => "READ_PIXEL"
  | .readPixelArgb _ _ => "READ_PIXEL_ARGB"
  | .renderFrame => "RENDER_FRAME"

/-- The operands as numbers, in the order of R101's table. -/
def operandValues : Instr → List Nat
  | .pokeTile layer tx ty data => [layer.number, tx.toNat, ty.toNat, data.toNat]
  | .pokeAttr layer tx ty data => [layer.number, tx.toNat, ty.toNat, data.toNat]
  | .setScroll layer x y => [layer.number, x.toNat, y.toNat]
  | .setHidden layer flag => [layer.number, flag.toNat]
  | .setSprite idx x y tile attr => [idx.toNat, x.toNat, y.toNat, tile.toNat, attr.toNat]
  | .hideSprite idx => [idx.toNat]
  | .setPalette pidx r g b => [pidx.toNat, r.toNat, g.toNat, b.toNat]
  | .setTileRow plane tile row data => [(planeBits plane).toNat, tile.toNat, row.toNat, data.toNat]
  | .setBgcolor pidx => [pidx.toNat]
  | .setHideSprites flag => [flag.toNat]
  | .peekTile layer tx ty => [layer.number, tx.toNat, ty.toNat]
  | .peekAttr layer tx ty => [layer.number, tx.toNat, ty.toNat]
  | .readPixel x y => [x.toNat, y.toNat]
  | .readPixelArgb x y => [x.toNat, y.toNat]
  | .renderFrame => []

/-- The command written as R101 writes it: mnemonic, operands separated by commas, numbers in decimal. Log 20. -/
def commandText (i : Instr) : String :=
  match operandValues i with
  | [] => mnemonic i
  | vs => mnemonic i ++ " " ++ ", ".intercalate (vs.map (fun v => toString v))

end Sys2Proof
end

