-- ==== Sys2Proof/Machine/State.lean ====
section
/-! DEFINITION. The state of the PPU (spec/10_state.md R22 to R36), the command port's words and responses
(spec/44_host_commands.md R210, R211), the reasons a step can stop, and the state after reset (R38). -/

namespace Sys2Proof.Machine

open Sys2Proof

/-- One sprite entry `OAM[i]` (R35, R94). -/
structure Sprite where
  x    : Byte
  y    : Byte
  tile : Byte
  attr : Byte
deriving DecidableEq, Repr

/-- One background layer: its tile grid and attribute grid (R33, R34), scroll offset (R24) and hidden flag (R25).
The grids list only the entries that differ from what an unlisted entry reads as. -/
structure Layer where
  map    : List Host.Cell
  attr   : List Host.Cell
  scx    : Byte
  scy    : Byte
  hidden : Bool
deriving DecidableEq, Repr

/-- The response of a host command (R211). -/
inductive Response where
  /-- `OK`: a write command or `RENDER_FRAME` was performed -/
  | ok
  /-- `OK(v)`: a read command was performed, `v` zero-extended to 32 bits -/
  | okValue (v : BitVec 32)
  /-- `REJECT`: the command word was reserved, no state was changed -/
  | reject
deriving DecidableEq, Repr

/-- The PPU raises no exception and no command can fault (R250): there is no fault. Log 21. -/
inductive Fault where
deriving DecidableEq, Repr

/-- Reasons for which the model gives no meaning. -/
inductive Refusal where
  /-- Raised by an arm of `exec` whose instruction has no meaning yet; no arm raises it in this model. Safe: the run
  stops where the hardware goes on. -/
  | notModelled (mnemonic : String)
deriving DecidableEq, Repr

/-- The state: every row of R22's table, and the port's pending words and responses (log 7). -/
structure State where
  /-- `PAL` (R31), keyed by palette address -/
  pal         : List (Nat × Color)
  /-- `TILE[0]` (R32), keyed by `tile * 8 + row` -/
  tile0       : List Host.Cell
  /-- `TILE[1]` -/
  tile1       : List Host.Cell
  /-- `TILE[2]` -/
  tile2       : List Host.Cell
  /-- background layer 0 -/
  bg0         : Layer
  /-- background layer 1 -/
  bg1         : Layer
  /-- background layer 2, part of the machine when `NUM_LAYERS = 3` -/
  bg2         : Layer
  /-- `OAM` (R35), keyed by `OamIndex` -/
  oam         : List (Nat × Sprite)
  /-- `BGCOLOR` (R26) -/
  bgcolor     : BitVec 6
  /-- `HIDE_SPRITES` (R27) -/
  hideSprites : Bool
  /-- `FB` (R36) by scanlines, top to bottom, each left to right; empty until the first completed `RENDER_FRAME`,
  when every pixel still holds its free value (log 13) -/
  fb          : List (List Color)
  /-- the command words the host has yet to present, the next one first (R210) -/
  commands    : List CmdWord
  /-- the responses given, the latest first (R211) -/
  responses   : List Response
deriving DecidableEq, Repr

/-- A layer after reset (R38): scroll 0, shown, its grids at their reset contents. -/
def Layer.reset : Layer := { map := [], attr := [], scx := 0#8, scy := 0#8, hidden := false }

/-- The state after reset (R38, R280): no command is in progress and the port waits for the host's first command.
The memories list nothing: their reset contents are `resetColor`, `resetTileRow`, `resetTileIndex`,
`resetAttributes`, `resetSprite` of Machine/Ops.lean. Log 12. -/
def State.reset : State :=
  { pal := [], tile0 := [], tile1 := [], tile2 := [], bg0 := Layer.reset, bg1 := Layer.reset, bg2 := Layer.reset,
    oam := [], bgcolor := 0#6, hideSprites := false, fb := [], commands := [], responses := [] }

end Sys2Proof.Machine
end

