-- ==== Sys2Proof/Machine/Ops.lean ====
section
/-! DEFINITION. The named operations over the memory spaces and registers (spec/10_state.md R30, spec/00_scope.md R11:
`MemRead`, `MemWrite`, `S <- v`), the command port (spec/44_host_commands.md R210, R211) and the one way a command is
refused, which stands where other hardware takes an exception (spec/60_exceptions.md R251, R254). -/

namespace Sys2Proof.Machine

open Sys2Proof

/-! ### Sparse memory: key and value pairs, keys rising, no entry equal to what an unlisted key reads as -/

section
variable {α : Type}

/-- The entry at key `a`; a key not listed reads as `d`. -/
def Memory.read (d : α) : List (Nat × α) → Nat → α
  | [], _ => d
  | c :: m, a => if c.1 = a then c.2 else Memory.read d m a

/-- The memory without any entry at key `a`. -/
def Memory.erase (m : List (Nat × α)) (a : Nat) : List (Nat × α) := m.filter fun c => decide (c.1 ≠ a)

/-- The entry put before the first larger key. -/
def Memory.insert (a : Nat) (v : α) : List (Nat × α) → List (Nat × α)
  | [] => [(a, v)]
  | c :: m => if a < c.1 then (a, v) :: c :: m else c :: Memory.insert a v m

/-- Replace the entry at key `a` by `v`; writing what an unlisted key reads as removes the entry. -/
def Memory.write [DecidableEq α] (d : α) (m : List (Nat × α)) (a : Nat) (v : α) : List (Nat × α) :=
  if v = d then Memory.erase m a else Memory.insert a v (Memory.erase m a)

/-- The canonical form from key `lo` on: keys strictly rising and below `size`, no entry equal to `d`. -/
def Memory.wfFrom [DecidableEq α] (d : α) (size lo : Nat) : List (Nat × α) → Bool
  | [] => true
  | c :: m => decide (lo ≤ c.1) && decide (c.1 < size) && decide (c.2 ≠ d) && Memory.wfFrom d size (c.1 + 1) m

/-- The canonical form of a memory space of `size` entries. -/
def Memory.wf [DecidableEq α] (d : α) (size : Nat) (m : List (Nat × α)) : Bool := Memory.wfFrom d size 0 m

end

/-! ### What an entry nothing has written reads as: the reset contents (R38, decision D12; log 12) -/

/-- `PAL[i]`: `(0, 0, 0)` (R31). -/
def resetColor : Color := { r := 0#8, g := 0#8, b := 0#8 }

/-- `TILE[p][t][r]`: 0 (R32). -/
def resetTileRow : Byte := 0#8

/-- `MAP[l][a]`: 0 (R33). -/
def resetTileIndex : Byte := 0#8

/-- `ATTR[l][a]`: `0x00`, priority 0 (R34). -/
def resetAttributes : Byte := 0x00#8

/-- `OAM[i]`: at (0, 0), tile 0, `attr = 0x40`, priority 1 (R35). -/
def resetSprite : Sprite := { x := 0#8, y := 0#8, tile := 0#8, attr := 0x40#8 }

/-! ### Reads -/

/-- `PAL[i]` (R31). -/
def State.palAt (s : State) (i : BitVec 6) : Color := Memory.read resetColor s.pal i.toNat

/-- The bytes of plane `p` (R32). -/
def State.plane (s : State) : PlaneId → List Host.Cell
  | .plane0 => s.tile0
  | .plane1 => s.tile1
  | .plane2 => s.tile2

/-- `TILE[p][t][r]` (R32). -/
def State.tileAt (s : State) (p : PlaneId) (t : Byte) (r : BitVec 3) : Byte :=
  Memory.read resetTileRow (s.plane p) (tileKey t r)

/-- Background layer `l`. -/
def State.layer (s : State) : LayerId → Layer
  | .bg0 => s.bg0
  | .bg1 => s.bg1
  | .bg2 => s.bg2

/-- `MAP[l][a]` (R33). -/
def State.mapAt (s : State) (l : LayerId) (a : BitVec 10) : Byte :=
  Memory.read resetTileIndex (s.layer l).map a.toNat

/-- `ATTR[l][a]` (R34). -/
def State.attrAt (s : State) (l : LayerId) (a : BitVec 10) : Byte :=
  Memory.read resetAttributes (s.layer l).attr a.toNat

/-- `OAM[i]` (R35). -/
def State.spriteAt (s : State) (i : Byte) : Sprite := Memory.read resetSprite s.oam i.toNat

/-- The Color `FB[x][y]` holds before the first completed frame: a free value (R36, U1; log 13). -/
def unrenderedColor (x y : Byte) : Color := colorOfBits (Config.freePixel x.toNat y.toNat)

/-- `FB[x][y]` (R36). -/
def State.pixelAt (s : State) (x y : Byte) : Color :=
  match s.fb[y.toNat]? with
  | none => unrenderedColor x y
  | some pixels =>
    match pixels[x.toNat]? with
    | none => unrenderedColor x y
    | some c => c

/-! ### Writes -/

/-- `PAL[i] <- c`. -/
def State.setPal (s : State) (i : BitVec 6) (c : Color) : State :=
  { s with pal := Memory.write resetColor s.pal i.toNat c }

/-- Replace the bytes of plane `p`. -/
def State.setPlane (s : State) (p : PlaneId) (m : List Host.Cell) : State :=
  match p with
  | .plane0 => { s with tile0 := m }
  | .plane1 => { s with tile1 := m }
  | .plane2 => { s with tile2 := m }

/-- `TILE[p][t][r] <- v`. -/
def State.setTile (s : State) (p : PlaneId) (t : Byte) (r : BitVec 3) (v : Byte) : State :=
  s.setPlane p (Memory.write resetTileRow (s.plane p) (tileKey t r) v)

/-- Replace background layer `l`. -/
def State.setLayer (s : State) (l : LayerId) (b : Layer) : State :=
  match l with
  | .bg0 => { s with bg0 := b }
  | .bg1 => { s with bg1 := b }
  | .bg2 => { s with bg2 := b }

/-- `MAP[l][a] <- v`. -/
def State.setMap (s : State) (l : LayerId) (a : BitVec 10) (v : Byte) : State :=
  s.setLayer l { s.layer l with map := Memory.write resetTileIndex (s.layer l).map a.toNat v }

/-- `ATTR[l][a] <- v`. -/
def State.setAttr (s : State) (l : LayerId) (a : BitVec 10) (v : Byte) : State :=
  s.setLayer l { s.layer l with attr := Memory.write resetAttributes (s.layer l).attr a.toNat v }

/-- `SCX[l] <- x; SCY[l] <- y` (R214). -/
def State.setScroll (s : State) (l : LayerId) (x y : Byte) : State :=
  s.setLayer l { s.layer l with scx := x, scy := y }

/-- `OAM[i] <- e`. -/
def State.setSprite (s : State) (i : Byte) (e : Sprite) : State :=
  { s with oam := Memory.write resetSprite s.oam i.toNat e }

/-- `BGCOLOR <- v`. -/
def State.setBgcolor (s : State) (v : BitVec 6) : State := { s with bgcolor := v }

/-- Overwrite the whole framebuffer (R36, R187). -/
def State.setFrame (s : State) (f : List (List Color)) : State := { s with fb := f }

/-! ### The command port (R210, R211) -/

/-- The next command word the host presents, and the state that has taken it. -/
def State.takeCommand (s : State) : Option (CmdWord × State) :=
  match s.commands with
  | [] => none
  | w :: rest => some (w, { s with commands := rest })

/-- The host presents `w` as the next command word. -/
def State.presentCommand (s : State) (w : CmdWord) : State := { s with commands := w :: s.commands }

/-- Give a response. -/
def State.respond (s : State) (r : Response) : State := { s with responses := r :: s.responses }

/-- Refuse a reserved command: respond `REJECT`, change nothing (R211, R251, R254). -/
def State.reject (s : State) : State := s.respond .reject

/-- A command that is legal when `legal` holds and then leads to `t`; otherwise it is reserved and refused (R99). -/
def performIf (legal : Bool) (t s : State) : Host.Outcome State Fault Refusal :=
  .next (if legal then t else s.reject)

end Sys2Proof.Machine
end

