-- ==== Sys2Proof/Machine/ReadCommands.lean ====
section
/-! DEFINITION. The read commands (spec/44_host_commands.md R222 to R225): they change no state and respond with a
value zero-extended to 32 bits (R211). -/

namespace Sys2Proof.Machine

open Sys2Proof

/-- `respond OK(zext_32(MAP[layer][(tx + ty * 32) mod 1024]))` (R222). -/
def execPeekTile (layer : LayerId) (tx ty : BitVec 5) (s : State) : Host.Outcome State Fault Refusal :=
  performIf layer.present (s.respond (.okValue ((s.mapAt layer (cellAddr tx ty)).setWidth 32))) s

/-- `respond OK(zext_32(ATTR[layer][(tx + ty * 32) mod 1024]))` (R223). -/
def execPeekAttr (layer : LayerId) (tx ty : BitVec 5) (s : State) : Host.Outcome State Fault Refusal :=
  performIf layer.present (s.respond (.okValue ((s.attrAt layer (cellAddr tx ty)).setWidth 32))) s

/-- `(r, g, b) <- FB[x][y]; respond OK(zext_32({r, g, b}))` (R224). -/
def execReadPixel (x y : Byte) (s : State) : Host.Outcome State Fault Refusal :=
  performIf (onScreen x y) (s.respond (.okValue ((colorBits (s.pixelAt x y)).setWidth 32))) s

/-- `respond OK(to_argb(FB[x][y]))` (R225). -/
def execReadPixelArgb (x y : Byte) (s : State) : Host.Outcome State Fault Refusal :=
  performIf (onScreen x y) (s.respond (.okValue (toArgb (s.pixelAt x y)))) s

end Sys2Proof.Machine
end

