-- ==== Sys2Proof/Machine/Flags.lean ====
section
/-! DEFINITION. The mode flags. The PPU has no condition codes and no operation sets a flag as a side effect
(spec/10_state.md R23); its two kinds of flag are `HIDDEN[l]` (R25) and `HIDE_SPRITES` (R27). -/

namespace Sys2Proof.Machine

open Sys2Proof

/-- `HIDDEN[l]` (R25): true = hidden. -/
def State.hiddenFlag (s : State) (l : LayerId) : Bool := (s.layer l).hidden

/-- `HIDDEN[l] <- flag` (R215). -/
def State.setHiddenFlag (s : State) (l : LayerId) (flag : Bool) : State :=
  s.setLayer l { s.layer l with hidden := flag }

/-- `HIDE_SPRITES <- flag` (R221). -/
def State.setHideSpritesFlag (s : State) (flag : Bool) : State := { s with hideSprites := flag }

end Sys2Proof.Machine
end

