-- ==== Sys2Proof/Machine/TileDecoder.lean ====
section
/-! DEFINITION. The tile decoder `get_raw_pixel` (spec/40_tile_decoder.md R120 to R125). -/

namespace Sys2Proof.Machine

open Sys2Proof

/-- The raw pixel stored at column `x`, row `y` of tile `t` (R91, R123). -/
def State.storedPixel (s : State) (t : Byte) (x y : BitVec 3) : BitVec 3 :=
  rawPixel (rowPixel (s.tileAt .plane0 t y) x) (rowPixel (s.tileAt .plane1 t y) x) (rowPixel (s.tileAt .plane2 t y) x)

/-- The flips in their order: flip-x, flip-y, diagonal swap last (R122). The result is the column and row read. -/
def applyFlips (a : Byte) (x y : BitVec 3) : BitVec 3 × BitVec 3 :=
  let x := if attrFlipX a then flip3 x else x
  let y := if attrFlipY a then flip3 y else y
  if attrFlipDiag a then (y, x) else (x, y)

/-- `get_raw_pixel(t, a, lx, ly)` (R120). -/
def State.getRawPixel (s : State) (t a lx ly : Byte) : BitVec 3 :=
  let c := applyFlips a (mod8 lx) (mod8 ly)
  s.storedPixel t c.1 c.2

end Sys2Proof.Machine
end

