-- ==== Sys2Proof/Machine/LayerResolution.lean ====
section
/-! DEFINITION. Background layer pixel resolution `layer_hit` (spec/41_layer_resolution.md R140 to R147). -/

namespace Sys2Proof.Machine

open Sys2Proof

/-- A hit: its PaletteIndex and its priority, 3 frontmost (spec/00_scope.md R14, R140, R162). -/
structure Hit where
  color : Byte
  prio  : BitVec 2
deriving DecidableEq, Repr

/-- The hit of a raw pixel shown with attribute byte `a`, none when transparent (R124, R144, R164). -/
def colorize (a : Byte) (raw : BitVec 3) : Option Hit :=
  if raw = 0#3 then none else some { color := hitIndex (attrSub a) raw, prio := attrPrio a }

/-- `layer_hit(l, sx, sy)` (R140). -/
def State.layerHit (s : State) (l : LayerId) (sx sy : Byte) : Option Hit :=
  if s.hiddenFlag l then none
  else
    let rx := sub8 sx (s.layer l).scx
    let ry := sub8 sy (s.layer l).scy
    let a := cellAddr (div8 rx) (div8 ry)
    let attr := s.attrAt l a
    colorize attr (s.getRawPixel (s.mapAt l a) attr ((mod8 rx).setWidth 8) ((mod8 ry).setWidth 8))

/-- The hit of a layer that the PPU may not have: none when it has it not. The hit is asked for first so that a
transparent layer 2 evaluates whatever the open `NUM_LAYERS` is. -/
def State.presentHit (s : State) (l : LayerId) (sx sy : Byte) : Option Hit :=
  match s.layerHit l sx sy with
  | none => none
  | some h => if l.present then some h else none

/-- `hits[l]` for `l` in 0..NUM_LAYERS-1 (R147), in order of the layer number; a layer the PPU has not got hits
nothing. -/
def State.layerHits (s : State) (sx sy : Byte) : List (Option Hit) :=
  [s.presentHit .bg0 sx sy, s.presentHit .bg1 sx sy, s.presentHit .bg2 sx sy]

end Sys2Proof.Machine
end

