-- ==== Sys2Proof/Machine/SpriteResolution.lean ====
section
/-! DEFINITION. Sprite culling `gather` and overlap resolution `sprite_hit` (spec/42_sprite_resolution.md R160 to R168). -/

namespace Sys2Proof.Machine

open Sys2Proof

/-- The OAM indices 0..255, ascending. -/
def oamIndices : List Byte := (List.range 256).map fun i => BitVec.ofNat 8 i

/-- `gather(line)` (R161): the sprites whose vertical box contains the scanline, in table order, with no limit
(R167). -/
def State.gather (s : State) (line : Byte) : List Byte :=
  oamIndices.filter fun i => inBox line (s.spriteAt i).y

/-- The pixel of sprite entry `e` at a screen position whose scanline its box contains: none outside its horizontal
box or where it is transparent (R162, R164). -/
def State.spritePixel (s : State) (e : Sprite) (sx line : Byte) : Option Hit :=
  if inBox sx e.x then colorize e.attr (s.getRawPixel e.tile e.attr (sub8 sx e.x) (sub8 line e.y)) else none

/-- `sprite_hit(G, sx, line)` (R162): the first entry of the list with an opaque pixel there (R163). -/
def State.spriteHit (s : State) : List Byte → Byte → Byte → Option Hit
  | [], _, _ => none
  | i :: rest, sx, line =>
    match s.spritePixel (s.spriteAt i) sx line with
    | some h => some h
    | none => State.spriteHit s rest sx line

end Sys2Proof.Machine
end

