-- ==== Sys2Proof/Machine/Compositor.lean ====
section
/-! DEFINITION. Priority arbiter, palette lookup and frame renderer (spec/43_compositor.md R180 to R189). -/

namespace Sys2Proof.Machine

open Sys2Proof

/-- The priority levels in the order the arbiter scans them (R180). -/
def priorityLevels : List (BitVec 2) := [3#2, 2#2, 1#2, 0#2]

/-- The order in which layer hits are asked at one level: highest layer number first (R182, decision D5). -/
def layerOrder (hits : List (Option Hit)) : List (Option Hit) := hits.reverse

/-- The colour of a hit whose priority is `level`. -/
def hitAtLevel (level : BitVec 2) : Option Hit → Option Byte
  | some h => if h.prio = level then some h.color else none
  | none => none

/-- The winner at one level: the sprite before the layers (R181). -/
def winnerAtLevel (sh : Option Hit) (hits : List (Option Hit)) (level : BitVec 2) : Option Byte :=
  match hitAtLevel level sh with
  | some c => some c
  | none => (layerOrder hits).findSome? (hitAtLevel level)

/-- The sprite hit as the arbiter sees it: none when `HIDE_SPRITES = 1` (R184). -/
def State.visibleSprite (s : State) (sh : Option Hit) : Option Hit := if s.hideSprites then none else sh

/-- `get_top_pixel(sh, hits)` (R180): the first winner from level 3 down, else `BGCOLOR` (R183). -/
def State.getTopPixel (s : State) (sh : Option Hit) (hits : List (Option Hit)) : Byte :=
  match priorityLevels.findSome? (winnerAtLevel (s.visibleSprite sh) hits) with
  | some c => c
  | none => s.bgcolor.setWidth 8

/-- `color_of(c) = PAL[c[5:0]]` (R185). -/
def State.colorOf (s : State) (c : Byte) : Color := s.palAt (c.extractLsb' 0 6)

/-- The palette index shown at `(x, y)`, given the scanline's gathered list (R187). -/
def State.topIndex (s : State) (g : List Byte) (x y : Byte) : Byte :=
  s.getTopPixel (s.spriteHit g x y) (s.layerHits x y)

/-- One scanline: gathered once, then its pixels left to right (R160, R187). -/
def State.renderLine (s : State) (y : Byte) : List Color :=
  let g := s.gather y
  (List.range Config.screenWidth).map fun x => s.colorOf (s.topIndex g (BitVec.ofNat 8 x) y)

/-- `render_frame()` (R187): every scanline, top to bottom. -/
def State.renderedFrame (s : State) : List (List Color) :=
  (List.range Config.screenHeight).map fun y => s.renderLine (BitVec.ofNat 8 y)

end Sys2Proof.Machine
end

