-- ==== Sys2Proof/Machine/RenderCommand.lean ====
section
/-! DEFINITION. The render command (spec/44_host_commands.md R226). -/

namespace Sys2Proof.Machine

open Sys2Proof

/-- `render_frame(); respond OK` (R226): one indivisible step that overwrites the whole framebuffer. -/
def execRenderFrame (s : State) : Host.Outcome State Fault Refusal :=
  .next ((s.setFrame s.renderedFrame).respond .ok)

end Sys2Proof.Machine
end

