-- ==== Sys2Proof/Machine/WriteCommands.lean ====
section
/-! DEFINITION. The write commands (spec/44_host_commands.md R212 to R221). -/

namespace Sys2Proof.Machine

open Sys2Proof

/-- `MAP[layer][(tx + ty * 32) mod 1024] <- data; respond OK` (R212). -/
def execPokeTile (layer : LayerId) (tx ty : BitVec 5) (data : Byte) (s : State) : Host.Outcome State Fault Refusal :=
  performIf layer.present ((s.setMap layer (cellAddr tx ty) data).respond .ok) s

/-- `ATTR[layer][(tx + ty * 32) mod 1024] <- data; respond OK` (R213). -/
def execPokeAttr (layer : LayerId) (tx ty : BitVec 5) (data : Byte) (s : State) : Host.Outcome State Fault Refusal :=
  performIf layer.present ((s.setAttr layer (cellAddr tx ty) data).respond .ok) s

/-- `SCX[layer] <- x; SCY[layer] <- y; respond OK` (R214). -/
def execSetScroll (layer : LayerId) (x y : Byte) (s : State) : Host.Outcome State Fault Refusal :=
  performIf layer.present ((s.setScroll layer x y).respond .ok) s

/-- `HIDDEN[layer] <- flag; respond OK` (R215). -/
def execSetHidden (layer : LayerId) (flag : Bool) (s : State) : Host.Outcome State Fault Refusal :=
  performIf layer.present ((s.setHiddenFlag layer flag).respond .ok) s

/-- `OAM[idx] <- (x, y, tile, attr); respond OK` (R216): all four fields together. -/
def execSetSprite (idx x y tile attr : Byte) (s : State) : Host.Outcome State Fault Refusal :=
  .next ((s.setSprite idx { x := x, y := y, tile := tile, attr := attr }).respond .ok)

/-- `OAM[idx].y <- SCREEN_HEIGHT; respond OK` (R217): the other three fields keep their values (decision D17). -/
def execHideSprite (idx : Byte) (s : State) : Host.Outcome State Fault Refusal :=
  .next ((s.setSprite idx { s.spriteAt idx with y := BitVec.ofNat 8 Config.screenHeight }).respond .ok)

/-- `PAL[pidx] <- (r, g, b); respond OK` (R218). -/
def execSetPalette (pidx : BitVec 6) (r g b : Byte) (s : State) : Host.Outcome State Fault Refusal :=
  .next ((s.setPal pidx { r := r, g := g, b := b }).respond .ok)

/-- `TILE[plane][tile][row] <- data; respond OK` (R219). -/
def execSetTileRow (plane : PlaneId) (tile : Byte) (row : BitVec 3) (data : Byte) (s : State) :
    Host.Outcome State Fault Refusal :=
  .next ((s.setTile plane tile row data).respond .ok)

/-- `BGCOLOR <- pidx; respond OK` (R220). -/
def execSetBgcolor (pidx : BitVec 6) (s : State) : Host.Outcome State Fault Refusal :=
  .next ((s.setBgcolor pidx).respond .ok)

/-- `HIDE_SPRITES <- flag; respond OK` (R221). -/
def execSetHideSprites (flag : Bool) (s : State) : Host.Outcome State Fault Refusal :=
  .next ((s.setHideSpritesFlag flag).respond .ok)

end Sys2Proof.Machine
end

