-- ==== Sys2Proof/Machine/Dispatch.lean ====
section
/-! DEFINITION. One arm per host command, each a direct call of its meaning. -/

namespace Sys2Proof.Machine

open Sys2Proof

/-- Perform a command (R98: the rule of each mnemonic). -/
def exec (i : Instr) (s : State) : Host.Outcome State Fault Refusal :=
  match i with
  | .pokeTile layer tx ty data => Sys2Proof.Machine.execPokeTile layer tx ty data s
  | .pokeAttr layer tx ty data => Sys2Proof.Machine.execPokeAttr layer tx ty data s
  | .setScroll layer x y => Sys2Proof.Machine.execSetScroll layer x y s
  | .setHidden layer flag => Sys2Proof.Machine.execSetHidden layer flag s
  | .setSprite idx x y tile attr => Sys2Proof.Machine.execSetSprite idx x y tile attr s
  | .hideSprite idx => Sys2Proof.Machine.execHideSprite idx s
  | .setPalette pidx r g b => Sys2Proof.Machine.execSetPalette pidx r g b s
  | .setTileRow plane tile row data => Sys2Proof.Machine.execSetTileRow plane tile row data s
  | .setBgcolor pidx => Sys2Proof.Machine.execSetBgcolor pidx s
  | .setHideSprites flag => Sys2Proof.Machine.execSetHideSprites flag s
  | .peekTile layer tx ty => Sys2Proof.Machine.execPeekTile layer tx ty s
  | .peekAttr layer tx ty => Sys2Proof.Machine.execPeekAttr layer tx ty s
  | .readPixel x y => Sys2Proof.Machine.execReadPixel x y s
  | .readPixelArgb x y => Sys2Proof.Machine.execReadPixelArgb x y s
  | .renderFrame => Sys2Proof.Machine.execRenderFrame s

end Sys2Proof.Machine
end

