-- ==== Sys2Proof/Machine/Step.lean ====
section
/-! DEFINITION. One step: one host command (spec/00_scope.md R12, spec/44_host_commands.md R210). -/

namespace Sys2Proof.Machine

open Sys2Proof

/-- Take the next command word, perform it or refuse it (R99, R210, R251). With no word presented the PPU holds its
state (spec/60_exceptions.md R258; log 8). -/
def step (s : State) : Host.Outcome State Fault Refusal :=
  match s.takeCommand with
  | none => .next s
  | some (w, s') =>
    match decode w with
    | some i => exec i s'
    | none => .next s'.reject

/-- The host presents the given word as the next command (R210; logs 10, 11). -/
def State.withFetchWord (s : State) (nbits w : Nat) : State := s.presentCommand (tableWord nbits w)

end Sys2Proof.Machine
end

