-- ==== Sys2Proof/Safety.lean ====
section
/-! DEFINITION. The terms claims are stated in: the pieces of the state and what a command leaves alone, the invariant
of the state, reserved words as spec/30_encoding.md R99 lists them, and a run the host conducts as the spec asks. -/

namespace Sys2Proof.Machine

open Sys2Proof

/-! ### Pieces of the state and frames -/

/-- The pieces of the state: the rows of spec/10_state.md R22, each layer and plane on its own, and the two sides of
the command port. -/
inductive Piece where
  | palette
  | plane (p : PlaneId)
  | tileMap (l : LayerId)
  | attrMap (l : LayerId)
  | scroll (l : LayerId)
  | hidden (l : LayerId)
  | spriteTable
  | bgcolor
  | hideSprites
  | framebuffer
  | commands
  | responses
deriving DecidableEq, Repr

/-- The piece reads the same in both states, entry by entry. -/
def Piece.same : Piece → State → State → Prop
  | .palette, s, t => ∀ i, t.palAt i = s.palAt i
  | .plane p, s, t => ∀ tile row, t.tileAt p tile row = s.tileAt p tile row
  | .tileMap l, s, t => ∀ a, t.mapAt l a = s.mapAt l a
  | .attrMap l, s, t => ∀ a, t.attrAt l a = s.attrAt l a
  | .scroll l, s, t => (t.layer l).scx = (s.layer l).scx ∧ (t.layer l).scy = (s.layer l).scy
  | .hidden l, s, t => t.hiddenFlag l = s.hiddenFlag l
  | .spriteTable, s, t => ∀ i, t.spriteAt i = s.spriteAt i
  | .bgcolor, s, t => t.bgcolor = s.bgcolor
  | .hideSprites, s, t => t.hideSprites = s.hideSprites
  | .framebuffer, s, t => ∀ x y, t.pixelAt x y = s.pixelAt x y
  | .commands, s, t => t.commands = s.commands
  | .responses, s, t => t.responses = s.responses

/-- The PPU has the piece: all of them, but for a layer whose number is not below `NUM_LAYERS` (R22). -/
def Piece.present : Piece → Bool
  | .palette => true
  | .plane _ => true
  | .tileMap l => l.present
  | .attrMap l => l.present
  | .scroll l => l.present
  | .hidden l => l.present
  | .spriteTable => true
  | .bgcolor => true
  | .hideSprites => true
  | .framebuffer => true
  | .commands => true
  | .responses => true

/-- From `s` to `t` every piece outside the list reads the same. -/
def OnlyChanges (ps : List Piece) (s t : State) : Prop := ∀ p, p ∉ ps → p.same s t

/-! ### The invariant -/

/-- The state is in its canonical form: each memory space lists strictly rising keys of the space and no entry equal
to its reset contents, the framebuffer holds no frame or a whole one (R36), and a layer the PPU has not got stays as
reset left it (R22, R99). -/
structure State.Inv (s : State) : Prop where
  palette : Memory.wf resetColor 64 s.pal = true
  tiles : ∀ p, Memory.wf resetTileRow 2048 (s.plane p) = true
  maps : ∀ l, Memory.wf resetTileIndex 1024 (s.layer l).map = true
  attrs : ∀ l, Memory.wf resetAttributes 1024 (s.layer l).attr = true
  sprites : Memory.wf resetSprite 256 s.oam = true
  frame : s.fb = [] ∨
    (s.fb.length = Config.screenHeight ∧ ∀ row ∈ s.fb, row.length = Config.screenWidth)
  absent : ∀ l, l.present = false → s.layer l = Layer.reset

/-! ### Reserved words (R97, R99) -/

/-- The fifteen opcodes of R98. -/
def assignedOpcodes : List Byte :=
  [0x01#8, 0x02#8, 0x03#8, 0x04#8, 0x05#8, 0x06#8, 0x07#8, 0x08#8, 0x09#8, 0x0A#8, 0x10#8, 0x11#8, 0x12#8, 0x13#8,
    0x20#8]

/-- The must-be-zero bits of the opcode's format, as R97's table lists them. -/
def mustBeZero (op : Byte) : CmdWord :=
  match op.toNat with
  | 0x01 => 0x00FFFFF00000#48
  | 0x02 => 0x00FFFFF00000#48
  | 0x03 => 0x00FFFFFC0000#48
  | 0x04 => 0x00FFFFFFFCFE#48
  | 0x06 => 0x0000FFFFFFFF#48
  | 0x07 => 0x00FFC0000000#48
  | 0x08 => 0x00FFFFE00000#48
  | 0x09 => 0x00FFFFFFFFC0#48
  | 0x0A => 0x00FFFFFFFFFE#48
  | 0x10 => 0x00FFFFF000FF#48
  | 0x11 => 0x00FFFFF000FF#48
  | 0x12 => 0x00FFFFFF0000#48
  | 0x13 => 0x00FFFFFF0000#48
  | 0x20 => 0x00FFFFFFFFFF#48
  | _ => 0x000000000000#48

/-- The `layer` field of a word whose format has one (R97). -/
def layerField (w : CmdWord) : Option (BitVec 2) :=
  match (opcodeField w).toNat with
  | 0x01 => some (field w 18 2)
  | 0x02 => some (field w 18 2)
  | 0x03 => some (field w 16 2)
  | 0x04 => some (field w 8 2)
  | 0x10 => some (field w 18 2)
  | 0x11 => some (field w 18 2)
  | _ => none

/-- A word is reserved when one of R99's five cases holds, in R99's order. -/
def ReservedWord (w : CmdWord) : Prop :=
  opcodeField w ∉ assignedOpcodes ∨
  w &&& mustBeZero (opcodeField w) ≠ 0#48 ∨
  (∃ v, layerField w = some v ∧ Config.numLayers ≤ v.toNat) ∨
  (opcodeField w = 0x08#8 ∧ field w 19 2 = 3#2) ∨
  ((opcodeField w = 0x12#8 ∨ opcodeField w = 0x13#8) ∧
    (Config.screenWidth ≤ (field w 8 8).toNat ∨ Config.screenHeight ≤ (field w 0 8).toNat))

/-- The commands that return a value (R65, R211). -/
def isReadCommand : Instr → Bool
  | .pokeTile _ _ _ _ => false
  | .pokeAttr _ _ _ _ => false
  | .setScroll _ _ _ => false
  | .setHidden _ _ => false
  | .setSprite _ _ _ _ _ => false
  | .hideSprite _ => false
  | .setPalette _ _ _ _ => false
  | .setTileRow _ _ _ _ => false
  | .setBgcolor _ => false
  | .setHideSprites _ => false
  | .peekTile _ _ _ => true
  | .peekAttr _ _ _ => true
  | .readPixel _ _ => true
  | .readPixelArgb _ _ => true
  | .renderFrame => false

/-! ### The picture, pixel by pixel -/

/-- What sprite `i` shows at a screen position: its hit there if the position lies in its 8 x 8 box (R165) and its
pixel is opaque. -/
def State.opaqueSprite (s : State) (i : Byte) (x y : Byte) : Option Hit :=
  if inBox y (s.spriteAt i).y then s.spritePixel (s.spriteAt i) x y else none

/-- The layer hits as R147 lists them: `layer_hit(l, sx, sy)` for `l` in 0..`NUM_LAYERS`-1. -/
def State.hitsOfNumLayers (s : State) (x y : Byte) : List (Option Hit) :=
  ([LayerId.bg0, LayerId.bg1, LayerId.bg2].take Config.numLayers).map fun l => s.layerHit l x y

/-- The Color of a pixel as R188 defines it pointwise. -/
def State.shownColor (s : State) (x y : Byte) : Color :=
  s.colorOf (s.getTopPixel (s.spriteHit (s.gather y) x y) (s.hitsOfNumLayers x y))

/-! ### Safe runs -/

/-- A frame has been completed since reset (R284: pixels are read "only after a completed frame"). -/
def State.frameCompleted (s : State) : Bool := !s.fb.isEmpty

/-- The next step is one the spec asks of the host: it presents no reserved word (R99), and it reads a pixel only after
a completed frame (R284). -/
def State.hostObeys (s : State) : Bool :=
  match s.takeCommand with
  | none => true
  | some (w, _) =>
    match decode w with
    | none => false
    | some (.readPixel _ _) => s.frameCompleted
    | some (.readPixelArgb _ _) => s.frameCompleted
    | some _ => true

/-- A run of `k` steps on which the host obeys at every step. -/
def SafeRun : Nat → State → Prop
  | 0, _ => True
  | k + 1, s => s.hostObeys = true ∧ ∃ t, step s = .next t ∧ SafeRun k t

end Sys2Proof.Machine
end

