-- ==== Sys2Proof/Certificates/Slice0/Obligations.lean ====
section
/-! DEFINITION. The statements about the model. `OnlyChanges ps s t` says that every piece of the state outside `ps`
reads the same in `t` as in `s`: it is the frame of each command. An effect that needs a layer the PPU may not have, or
a pixel that may lie off the screen, is stated as `.next (if legal then t else s.reject)`, which covers every operand:
`s.reject` is `s` with the response `REJECT` and nothing else changed (`RejectChangesNothing`). A clause about a command's
encoding, or about the words with its opcode that are refused, rests on the spec's own decisions (92_eei_decisions.md
D9, D10, D14), whichever rule repeats it. -/

open Sys2Proof Sys2Proof.Machine

/-! ### Encoding and decoding -/

/-- Every legal command, with every operand at every value, decodes from its word. -/
def Obligations.EncodedCommandDecodesBack : Prop :=
  ∀ i : Instr, i.wellFormed = true → decode (encode i) = some i

/-- A word that decodes is the word of the command it decodes to, and that command is legal: no bit is dropped, none is
ignored. -/
def Obligations.DecodedWordIsItsEncoding : Prop :=
  ∀ (w : CmdWord) (i : Instr), decode w = some i → i.wellFormed = true ∧ encode i = w

/-- Words written out in the spec (44_host_commands.md, 95_test_vectors.md G1) decode to the commands they stand for. -/
def Obligations.SpecWordsDecodeToTheirCommands : Prop :=
  decode 0x010000045F7F#48 = some (.pokeTile .bg1 31 2 0x7F) ∧
  decode 0x0200000525D5#48 = some (.pokeAttr .bg1 5 9 0xD5) ∧
  decode 0x03000000FF00#48 = some (.setScroll .bg0 255 0) ∧
  decode 0x040000000101#48 = some (.setHidden .bg1 true) ∧
  decode 0x0500000002C1#48 = some (.setSprite 0 0 0 2 0xC1) ∧
  decode 0x060700000000#48 = some (.hideSprite 7) ∧
  decode 0x07000800FF00#48 = some (.setPalette 8 0 255 0) ∧
  decode 0x080000100801#48 = some (.setTileRow .plane2 1 0 0x01) ∧
  decode 0x12000000BF9F#48 = some (.readPixel 191 159) ∧
  decode 0x200000000000#48 = some .renderFrame

/-- A word is refused by the decoder exactly when one of the five cases of R99 holds. That these words are reserved is
the spec's own decision (92_eei_decisions.md D8, D9, D10, D26). -/
def Obligations.ReservedWordsAreThoseOfTheFiveCases : Prop :=
  ∀ w : CmdWord, decode w = none ↔ ReservedWord w

/-- A word is a command exactly when it matches a row of the opcode table, `w & mask = match`, and the value
conditions of that command hold, as 30_encoding.md says of `opcode_table.json`. The encoding is the spec's own decision
(D9). -/
def Obligations.CommandWordsAreTheTableRows : Prop :=
  ∀ w : CmdWord, (∃ i, decode w = some i) ↔
    ∃ i : Instr, w &&& tableMask i = tableMatch i ∧
      (∀ v, layerField w = some v → v.toNat < Config.numLayers) ∧
      (opcodeField w = 0x08#8 → field w 19 2 ≠ 3#2) ∧
      (opcodeField w = 0x12#8 ∨ opcodeField w = 0x13#8 →
        (field w 8 8).toNat < Config.screenWidth ∧ (field w 0 8).toNat < Config.screenHeight)

/-- `NUM_LAYERS` is 2 or 3 and a layer is present exactly when its number is below it (R7, R99 case 3). -/
def Obligations.LayersBelowNumLayersArePresent : Prop :=
  (Config.numLayers = 2 ∨ Config.numLayers = 3) ∧
  ∀ l : LayerId, l.present = true ↔ (layerBits l).toNat < Config.numLayers

/-! ### The step and the command port -/

/-- When the word presented next decodes to a command, the step takes the word and is `exec` of the command. That the
port is a list of words in the state is the model's choice (log 7). -/
def Obligations.StepRunsTheDecodedCommand : Prop :=
  ∀ (s : State) (w : CmdWord) (rest : List CmdWord) (i : Instr),
    s.commands = w :: rest → decode w = some i → step s = exec i { s with commands := rest }

/-- Every step answers a next state. For a legal command or a render that is the spec's sentence that none can fault, trap
or hang. That a reserved word answers a next state rests on the spec's own decision D10 and on log 9 (U3 allows a fault
instead), that an idle port does on log 8, and that the model has no fault at all on log 21, deduced. -/
def Obligations.EveryStepAnswersANextState : Prop := ∀ s : State, ∃ t, step s = .next t

/-- With no command presented the PPU holds its state. The form of an idle step is the model's choice (log 8). -/
def Obligations.IdlePortHoldsTheState : Prop := ∀ s : State, s.commands = [] → step s = .next s

/-- A reserved word is taken, answered `REJECT`, and nothing else changes. The refusal is the spec's own decision
(92_eei_decisions.md D10). -/
def Obligations.ReservedWordIsRefused : Prop :=
  ∀ (s : State) (w : CmdWord) (rest : List CmdWord), s.commands = w :: rest → ReservedWord w →
    ∃ t, step s = .next t ∧ t.commands = rest ∧ t.responses = .reject :: s.responses ∧
      OnlyChanges [.commands, .responses] s t

/-- Refusing changes nothing but the response given (R254). -/
def Obligations.RejectChangesNothing : Prop :=
  ∀ s : State, s.reject.responses = .reject :: s.responses ∧ OnlyChanges [.responses] s s.reject

/-- A command term that no legal word encodes (a layer the PPU has not got, a pixel off the screen) is refused whole:
the model's choice for a term no word decodes to (log 19). -/
def Obligations.IllegalOperandsAreRefused : Prop :=
  ∀ (i : Instr) (s : State), i.wellFormed = false → exec i s = .next s.reject

/-- Every command word is taken whole and answered by exactly one response: `REJECT` when reserved, `OK(v)` for a read
command, `OK` for a write command or a render. The response format is the spec's own decision (D24). -/
def Obligations.EachCommandHasOneResponse : Prop :=
  ∀ (s : State) (w : CmdWord) (rest : List CmdWord), s.commands = w :: rest →
    ∃ t r, step s = .next t ∧ t.commands = rest ∧ t.responses = r :: s.responses ∧
      match decode w with
      | none => r = .reject
      | some i => if isReadCommand i then ∃ v, r = .okValue v else r = .ok

/-- Every legal command is performed, in every state. -/
def Obligations.EveryLegalCommandIsPerformed : Prop :=
  ∀ (i : Instr) (s : State), i.wellFormed = true →
    ∃ t r, exec i s = .next t ∧ t.responses = r :: s.responses ∧ r ≠ .reject ∧ t.commands = s.commands

/-! ### Write commands -/

/-- `POKE_TILE` (R212): the tile index of one cell of one layer, its frame, its encoding and which of its
words are refused. -/
def Obligations.PokeTileWritesTheTileIndex : Prop :=
  ∀ (layer : LayerId) (tx ty : BitVec 5) (data : Byte) (s : State),
    (∃ t, exec (.pokeTile layer tx ty data) s = .next (if layer.present then t else s.reject) ∧
      t.mapAt layer (cellAddr tx ty) = data ∧
      (∀ a, a ≠ cellAddr tx ty → t.mapAt layer a = s.mapAt layer a) ∧
      t.responses = .ok :: s.responses ∧ OnlyChanges [.tileMap layer, .responses] s t) ∧
    (cellAddr tx ty).toNat = (tx.toNat + ty.toNat * 32) % 1024 ∧
    opcodeField (encode (.pokeTile layer tx ty data)) = 0x01#8 ∧
    field (encode (.pokeTile layer tx ty data)) 20 20 = 0#20 ∧
    field (encode (.pokeTile layer tx ty data)) 18 2 = layerBits layer ∧
    field (encode (.pokeTile layer tx ty data)) 13 5 = ty ∧
    field (encode (.pokeTile layer tx ty data)) 8 5 = tx ∧
    field (encode (.pokeTile layer tx ty data)) 0 8 = data ∧
    ∀ w : CmdWord, opcodeField w = 0x01#8 →
      (decode w = none ↔ field w 20 20 ≠ 0#20 ∨ Config.numLayers ≤ (field w 18 2).toNat)

/-- `POKE_ATTR` (R213): the attribute byte of one cell of one layer, its frame, its encoding and which of its
words are refused. -/
def Obligations.PokeAttrWritesTheAttributeByte : Prop :=
  ∀ (layer : LayerId) (tx ty : BitVec 5) (data : Byte) (s : State),
    (∃ t, exec (.pokeAttr layer tx ty data) s = .next (if layer.present then t else s.reject) ∧
      t.attrAt layer (cellAddr tx ty) = data ∧
      (∀ a, a ≠ cellAddr tx ty → t.attrAt layer a = s.attrAt layer a) ∧
      t.responses = .ok :: s.responses ∧ OnlyChanges [.attrMap layer, .responses] s t) ∧
    (cellAddr tx ty).toNat = (tx.toNat + ty.toNat * 32) % 1024 ∧
    opcodeField (encode (.pokeAttr layer tx ty data)) = 0x02#8 ∧
    field (encode (.pokeAttr layer tx ty data)) 20 20 = 0#20 ∧
    field (encode (.pokeAttr layer tx ty data)) 18 2 = layerBits layer ∧
    field (encode (.pokeAttr layer tx ty data)) 13 5 = ty ∧
    field (encode (.pokeAttr layer tx ty data)) 8 5 = tx ∧
    field (encode (.pokeAttr layer tx ty data)) 0 8 = data ∧
    ∀ w : CmdWord, opcodeField w = 0x02#8 →
      (decode w = none ↔ field w 20 20 ≠ 0#20 ∨ Config.numLayers ≤ (field w 18 2).toNat)

/-- `SET_SCROLL` (R214): both scroll registers of one layer, its frame, its encoding, which of its words are
refused; the effect wraps, and no other command writes either register. -/
def Obligations.SetScrollWritesBothOffsets : Prop :=
  ∀ (layer : LayerId) (x y : Byte) (s : State),
    (∃ t, exec (.setScroll layer x y) s = .next (if layer.present then t else s.reject) ∧
      (t.layer layer).scx = x ∧ (t.layer layer).scy = y ∧
      t.responses = .ok :: s.responses ∧ OnlyChanges [.scroll layer, .responses] s t ∧
      ∀ sx sy : Byte, t.layerHit layer sx sy = (t.setScroll layer 0#8 0#8).layerHit layer (sx - x) (sy - y)) ∧
    opcodeField (encode (.setScroll layer x y)) = 0x03#8 ∧
    field (encode (.setScroll layer x y)) 18 22 = 0#22 ∧
    field (encode (.setScroll layer x y)) 16 2 = layerBits layer ∧
    field (encode (.setScroll layer x y)) 8 8 = x ∧
    field (encode (.setScroll layer x y)) 0 8 = y ∧
    (∀ w : CmdWord, opcodeField w = 0x03#8 →
      (decode w = none ↔ field w 18 22 ≠ 0#22 ∨ Config.numLayers ≤ (field w 16 2).toNat)) ∧
    ∀ (i : Instr) (u v : State), exec i u = .next v → (∀ x y, i ≠ .setScroll layer x y) →
      (v.layer layer).scx = (u.layer layer).scx ∧ (v.layer layer).scy = (u.layer layer).scy

/-- `SET_HIDDEN` (R215): the hidden flag of one layer, its frame, its encoding, which of its words are refused;
a hidden layer produces no hit. -/
def Obligations.SetHiddenWritesTheLayerFlag : Prop :=
  ∀ (layer : LayerId) (flag : Bool) (s : State),
    (∃ t, exec (.setHidden layer flag) s = .next (if layer.present then t else s.reject) ∧
      t.hiddenFlag layer = flag ∧
      t.responses = .ok :: s.responses ∧ OnlyChanges [.hidden layer, .responses] s t ∧
      (flag = true → ∀ sx sy, t.layerHit layer sx sy = none)) ∧
    opcodeField (encode (.setHidden layer flag)) = 0x04#8 ∧
    field (encode (.setHidden layer flag)) 10 30 = 0#30 ∧
    field (encode (.setHidden layer flag)) 8 2 = layerBits layer ∧
    field (encode (.setHidden layer flag)) 1 7 = 0#7 ∧
    field (encode (.setHidden layer flag)) 0 1 = BitVec.ofBool flag ∧
    ∀ w : CmdWord, opcodeField w = 0x04#8 →
      (decode w = none ↔
        field w 10 30 ≠ 0#30 ∨ field w 1 7 ≠ 0#7 ∨ Config.numLayers ≤ (field w 8 2).toNat)

/-- `SET_SPRITE` (R216): all four fields of one sprite entry, its encoding, its frame; a word with opcode `0x05` is
never rejected; `y = SCREEN_HEIGHT` hides the sprite (the screen's height is decision D1, the box test D16). -/
def Obligations.SetSpriteWritesTheWholeEntry : Prop :=
  (∀ (idx x y tile attr : Byte) (s : State),
    (∃ t, exec (.setSprite idx x y tile attr) s = .next t ∧
      t.spriteAt idx = { x := x, y := y, tile := tile, attr := attr } ∧
      (∀ i, i ≠ idx → t.spriteAt i = s.spriteAt i) ∧
      t.responses = .ok :: s.responses ∧ OnlyChanges [.spriteTable, .responses] s t ∧
      (y.toNat = Config.screenHeight → ∀ line : Byte, line.toNat < Config.screenHeight → idx ∉ t.gather line)) ∧
    opcodeField (encode (.setSprite idx x y tile attr)) = 0x05#8 ∧
    field (encode (.setSprite idx x y tile attr)) 32 8 = idx ∧
    field (encode (.setSprite idx x y tile attr)) 24 8 = x ∧
    field (encode (.setSprite idx x y tile attr)) 16 8 = y ∧
    field (encode (.setSprite idx x y tile attr)) 8 8 = tile ∧
    field (encode (.setSprite idx x y tile attr)) 0 8 = attr) ∧
  ∀ w : CmdWord, opcodeField w = 0x05#8 → decode w ≠ none

/-- `HIDE_SPRITE`: the sprite's `y` becomes `SCREEN_HEIGHT`, so that it is in no visible scanline's gathered list; its
other three fields keep their values, which is the spec's own decision (D17). -/
def Obligations.HideSpriteMovesTheSpriteOffScreen : Prop :=
  ∀ (idx : Byte) (s : State),
    ∃ t, exec (.hideSprite idx) s = .next t ∧
      (t.spriteAt idx).y.toNat = Config.screenHeight ∧
      (t.spriteAt idx).x = (s.spriteAt idx).x ∧ (t.spriteAt idx).tile = (s.spriteAt idx).tile ∧
      (t.spriteAt idx).attr = (s.spriteAt idx).attr ∧
      (∀ i, i ≠ idx → t.spriteAt i = s.spriteAt i) ∧
      t.responses = .ok :: s.responses ∧ OnlyChanges [.spriteTable, .responses] s t ∧
      ∀ line : Byte, line.toNat < Config.screenHeight → idx ∉ t.gather line

/-- `SET_PALETTE` (R218): one whole palette entry, its frame, in which the framebuffer stays, its encoding and
which of its words are refused. -/
def Obligations.SetPaletteWritesOneEntry : Prop :=
  ∀ (pidx : BitVec 6) (r g b : Byte) (s : State),
    (∃ t, exec (.setPalette pidx r g b) s = .next t ∧
      t.palAt pidx = { r := r, g := g, b := b } ∧ (∀ i, i ≠ pidx → t.palAt i = s.palAt i) ∧
      t.responses = .ok :: s.responses ∧ OnlyChanges [.palette, .responses] s t) ∧
    opcodeField (encode (.setPalette pidx r g b)) = 0x07#8 ∧
    field (encode (.setPalette pidx r g b)) 30 10 = 0#10 ∧
    field (encode (.setPalette pidx r g b)) 24 6 = pidx ∧
    field (encode (.setPalette pidx r g b)) 16 8 = r ∧
    field (encode (.setPalette pidx r g b)) 8 8 = g ∧
    field (encode (.setPalette pidx r g b)) 0 8 = b ∧
    ∀ w : CmdWord, opcodeField w = 0x07#8 → (decode w = none ↔ field w 30 10 ≠ 0#10)

/-- `SET_TILE_ROW`: one row byte of one plane of one tile; bit `x` of the data becomes the plane's bit for column `x`.
The granularity and the bit order are the spec's own decisions (D25, D4). -/
def Obligations.SetTileRowWritesOneRowByte : Prop :=
  ∀ (plane : PlaneId) (tile : Byte) (row : BitVec 3) (data : Byte) (s : State),
    ∃ t, exec (.setTileRow plane tile row data) s = .next t ∧
      t.tileAt plane tile row = data ∧
      (∀ u k, ¬(u = tile ∧ k = row) → t.tileAt plane u k = s.tileAt plane u k) ∧
      t.responses = .ok :: s.responses ∧ OnlyChanges [.plane plane, .responses] s t ∧
      ∀ x : BitVec 3, (t.storedPixel tile x row).getLsbD (2 - (planeBits plane).toNat) = data.getLsbD x.toNat

/-- `SET_BGCOLOR`: the 6-bit background colour register. The command is the spec's own decision (D18). -/
def Obligations.SetBgcolorWritesTheRegister : Prop :=
  ∀ (pidx : BitVec 6) (s : State),
    ∃ t, exec (.setBgcolor pidx) s = .next t ∧ t.bgcolor = pidx ∧ t.responses = .ok :: s.responses ∧
      OnlyChanges [.bgcolor, .responses] s t

/-- `SET_HIDE_SPRITES`: the global flag. The command is the spec's own decision (D18). -/
def Obligations.SetHideSpritesWritesTheFlag : Prop :=
  ∀ (flag : Bool) (s : State),
    ∃ t, exec (.setHideSprites flag) s = .next t ∧ t.hideSprites = flag ∧ t.responses = .ok :: s.responses ∧
      OnlyChanges [.hideSprites, .responses] s t

/-! ### Read commands -/

/-- `PEEK_TILE` (R222): responds with the cell's tile index and changes no state; after a `POKE_TILE` to the cell it is
the value poked, and at reset it is 0 (decision D12); its encoding and which of its words are refused. -/
def Obligations.PeekTileReadsTheTileIndex : Prop :=
  ∀ (layer : LayerId) (tx ty : BitVec 5) (s : State),
    (∃ t, exec (.peekTile layer tx ty) s = .next (if layer.present then t else s.reject) ∧
      t.responses = .okValue ((s.mapAt layer (cellAddr tx ty)).setWidth 32) :: s.responses ∧
      OnlyChanges [.responses] s t) ∧
    (∀ (data : Byte) (t : State), layer.present = true → exec (.pokeTile layer tx ty data) s = .next t →
      ∃ u, exec (.peekTile layer tx ty) t = .next u ∧
        u.responses = .okValue (data.setWidth 32) :: .ok :: s.responses) ∧
    State.reset.mapAt layer (cellAddr tx ty) = 0#8 ∧
    (cellAddr tx ty).toNat = (tx.toNat + ty.toNat * 32) % 1024 ∧
    opcodeField (encode (.peekTile layer tx ty)) = 0x10#8 ∧
    field (encode (.peekTile layer tx ty)) 20 20 = 0#20 ∧
    field (encode (.peekTile layer tx ty)) 18 2 = layerBits layer ∧
    field (encode (.peekTile layer tx ty)) 13 5 = ty ∧
    field (encode (.peekTile layer tx ty)) 8 5 = tx ∧
    field (encode (.peekTile layer tx ty)) 0 8 = 0#8 ∧
    ∀ w : CmdWord, opcodeField w = 0x10#8 →
      (decode w = none ↔
        field w 20 20 ≠ 0#20 ∨ field w 0 8 ≠ 0#8 ∨ Config.numLayers ≤ (field w 18 2).toNat)

/-- `PEEK_ATTR` (R223): responds with the cell's attribute byte and changes no state; after a `POKE_ATTR` to the cell
it is the byte poked, and at reset it is 0 (decision D12); its encoding and which of its words are refused. -/
def Obligations.PeekAttrReadsTheAttributeByte : Prop :=
  ∀ (layer : LayerId) (tx ty : BitVec 5) (s : State),
    (∃ t, exec (.peekAttr layer tx ty) s = .next (if layer.present then t else s.reject) ∧
      t.responses = .okValue ((s.attrAt layer (cellAddr tx ty)).setWidth 32) :: s.responses ∧
      OnlyChanges [.responses] s t) ∧
    (∀ (data : Byte) (t : State), layer.present = true → exec (.pokeAttr layer tx ty data) s = .next t →
      ∃ u, exec (.peekAttr layer tx ty) t = .next u ∧
        u.responses = .okValue (data.setWidth 32) :: .ok :: s.responses) ∧
    State.reset.attrAt layer (cellAddr tx ty) = 0#8 ∧
    (cellAddr tx ty).toNat = (tx.toNat + ty.toNat * 32) % 1024 ∧
    opcodeField (encode (.peekAttr layer tx ty)) = 0x11#8 ∧
    field (encode (.peekAttr layer tx ty)) 20 20 = 0#20 ∧
    field (encode (.peekAttr layer tx ty)) 18 2 = layerBits layer ∧
    field (encode (.peekAttr layer tx ty)) 13 5 = ty ∧
    field (encode (.peekAttr layer tx ty)) 8 5 = tx ∧
    field (encode (.peekAttr layer tx ty)) 0 8 = 0#8 ∧
    ∀ w : CmdWord, opcodeField w = 0x11#8 →
      (decode w = none ↔
        field w 20 20 ≠ 0#20 ∨ field w 0 8 ≠ 0#8 ∨ Config.numLayers ≤ (field w 18 2).toNat)

/-- `READ_PIXEL`: responds with the pixel's 24-bit field zero-extended and changes no state; the statement holds
whatever free values the framebuffer holds before the first frame (log 13). The field order is the spec's own decision
(D7), the refusal off the screen D26. -/
def Obligations.ReadPixelRespondsWithTheColor : Prop :=
  ∀ (x y : Byte) (s : State),
    ∃ t v, exec (.readPixel x y) s = .next (if onScreen x y then t else s.reject) ∧
      t.responses = .okValue v :: s.responses ∧ OnlyChanges [.responses] s t ∧
      v.toNat = (s.pixelAt x y).r.toNat * 65536 + (s.pixelAt x y).g.toNat * 256 + (s.pixelAt x y).b.toNat

/-- `READ_PIXEL_ARGB`: responds with the packed word, alpha `0xFF` on top, and changes no state. The layout is the
spec's own decision (D7). -/
def Obligations.ReadPixelArgbRespondsWithThePackedWord : Prop :=
  ∀ (x y : Byte) (s : State),
    ∃ t v, exec (.readPixelArgb x y) s = .next (if onScreen x y then t else s.reject) ∧
      t.responses = .okValue v :: s.responses ∧ OnlyChanges [.responses] s t ∧
      v.toNat = 0xFF000000 + (s.pixelAt x y).r.toNat * 65536 + (s.pixelAt x y).g.toNat * 256 + (s.pixelAt x y).b.toNat

/-- A pixel read after a render is the pixel the render composed from the state it found. -/
def Obligations.ReadPixelAfterRenderGivesTheRenderedColor : Prop :=
  ∀ (x y : Byte) (s t : State), onScreen x y = true → exec .renderFrame s = .next t →
    ∃ u, exec (.readPixel x y) t = .next u ∧
      u.responses = .okValue ((colorBits (s.shownColor x y)).setWidth 32) :: .ok :: s.responses

/-! ### The render command -/

/-- `RENDER_FRAME` (R226): every pixel of the framebuffer becomes the composed colour, and nothing else changes; a
second render gives the same frame; its word is `0x200000000000`, any other word with its opcode is refused. -/
def Obligations.RenderFrameWritesEveryPixel : Prop :=
  (∀ s : State, ∃ t, exec .renderFrame s = .next t ∧
    (∀ x y : Byte, onScreen x y = true → t.pixelAt x y = s.shownColor x y) ∧
    t.responses = .ok :: s.responses ∧ OnlyChanges [.framebuffer, .responses] s t ∧
    ∃ u, exec .renderFrame t = .next u ∧ ∀ x y : Byte, u.pixelAt x y = t.pixelAt x y) ∧
  encode .renderFrame = 0x200000000000#48 ∧
  ∀ w : CmdWord, opcodeField w = 0x20#8 → (decode w = none ↔ field w 0 40 ≠ 0#40)

/-- The frame is a function of the tables, the layers the PPU has, the sprite table and the flags alone: neither the
old framebuffer, nor the port, nor an absent layer can show in it. -/
def Obligations.FrameDependsOnlyOnTheTables : Prop :=
  ∀ s t : State,
    (∀ p : Piece, p.present = true → p ∉ [Piece.framebuffer, Piece.commands, Piece.responses] → p.same s t) →
    t.renderedFrame = s.renderedFrame

/-- With every tile transparent each pixel of a frame is `PAL[BGCOLOR]`; so the frame rendered straight after reset is
black. The zeros of the reset image are the spec's own decision (D12). -/
def Obligations.TransparentTilesShowTheBackground : Prop :=
  (∀ (s : State) (x y : Byte), (∀ p t r, s.tileAt p t r = 0#8) → s.shownColor x y = s.palAt s.bgcolor) ∧
  ∃ t, exec .renderFrame State.reset = .next t ∧
    ∀ x y : Byte, onScreen x y = true → t.pixelAt x y = { r := 0#8, g := 0#8, b := 0#8 }

/-! ### Whole-machine rules -/

/-- Only `RENDER_FRAME` writes the framebuffer. -/
def Obligations.OnlyTheRendererWritesTheFramebuffer : Prop :=
  ∀ (i : Instr) (s t : State), exec i s = .next t → i ≠ .renderFrame → Piece.framebuffer.same s t

/-- No command and no render changes a flag as a side effect: `HIDDEN[l]` changes only by `SET_HIDDEN` of that layer,
`HIDE_SPRITES` only by `SET_HIDE_SPRITES`. -/
def Obligations.FlagsChangeOnlyByTheirOwnCommands : Prop :=
  ∀ (i : Instr) (s t : State), exec i s = .next t →
    (∀ l, (∀ f, i ≠ .setHidden l f) → t.hiddenFlag l = s.hiddenFlag l) ∧
    ((∀ f, i ≠ .setHideSprites f) → t.hideSprites = s.hideSprites)

/-- Reads have no side effect, and repeating any command gives the same response and leaves the state as the first
left it. -/
def Obligations.RepeatingACommandChangesNothingMore : Prop :=
  (∀ (i : Instr) (s t : State), isReadCommand i = true → exec i s = .next t → OnlyChanges [.responses] s t) ∧
  ∀ (i : Instr) (s t : State), exec i s = .next t →
    ∃ r, t.responses = r :: s.responses ∧ exec i t = .next (t.respond r)

/-- The invariant holds at reset. Its form is the model's choice (logs 13, 14, 16). -/
def Obligations.ResetMeetsTheInvariant : Prop := State.reset.Inv

/-- Every step keeps the invariant: canonical memories, a whole frame or none, an absent layer untouched. Its form is
the model's choice (logs 13, 14, 16). -/
def Obligations.StepKeepsTheInvariant : Prop := ∀ s t : State, s.Inv → step s = .next t → t.Inv

/-- The reset image (R38). Sprite priority 1 and cell priority 0 are the source's, the zeros the spec's own decision
(D12), the empty port the model's choice (log 7). -/
def Obligations.ResetImage : Prop :=
  (∀ i, State.reset.palAt i = { r := 0#8, g := 0#8, b := 0#8 }) ∧
  (∀ p t r, State.reset.tileAt p t r = 0#8) ∧
  (∀ l a, State.reset.mapAt l a = 0#8 ∧ State.reset.attrAt l a = 0#8 ∧ attrPrio (State.reset.attrAt l a) = 0#2) ∧
  (∀ l, (State.reset.layer l).scx = 0#8 ∧ (State.reset.layer l).scy = 0#8 ∧ State.reset.hiddenFlag l = false) ∧
  (∀ i, State.reset.spriteAt i = { x := 0#8, y := 0#8, tile := 0#8, attr := 0x40#8 } ∧
    attrPrio (State.reset.spriteAt i).attr = 1#2) ∧
  State.reset.bgcolor = 0#6 ∧ State.reset.hideSprites = false ∧
  (∀ x y, State.reset.pixelAt x y = colorOfBits (Config.freePixel x.toNat y.toNat)) ∧
  State.reset.commands = [] ∧ State.reset.responses = []

/-! ### Data formats and arithmetic -/

/-- The attribute byte is `prio * 64 + fy * 32 + fx * 16 + fd * 8 + sub`. -/
def Obligations.AttributeByteIsItsFields : Prop :=
  ∀ a : Byte, a.toNat = (attrPrio a).toNat * 64 + (attrFlipY a).toNat * 32 + (attrFlipX a).toNat * 16 +
    (attrFlipDiag a).toNat * 8 + (attrSub a).toNat

/-- Coordinate arithmetic wraps at 8 bits; division and remainder by 8 are unsigned (00_scope.md, arithmetic laws). -/
def Obligations.CoordinateArithmeticWraps : Prop :=
  ∀ a b : Byte, (sub8 a b).toNat = (a.toNat + 256 - b.toNat) % 256 ∧
    (div8 a).toNat = a.toNat / 8 ∧ (mod8 a).toNat = a.toNat % 8

/-- The index of a hit is `subpalette * 8 + raw`, in 1..63 and never a multiple of 8 for an opaque raw pixel. -/
def Obligations.HitIndexIsSubpaletteTimesEightPlusRaw : Prop :=
  ∀ sub raw : BitVec 3, (hitIndex sub raw).toNat = sub.toNat * 8 + raw.toNat ∧
    (raw ≠ 0#3 →
      1 ≤ (hitIndex sub raw).toNat ∧ (hitIndex sub raw).toNat ≤ 63 ∧ (hitIndex sub raw).toNat % 8 ≠ 0)

/-! ### Tile decoder -/

/-- The eight orientations (R122): the column and row read for each value of the flip bits `fy fx fd`; and no two of
the eight are observationally identical for some tile. -/
def Obligations.FlipBitsGiveTheEightOrientations : Prop :=
  (∀ (s : State) (t a lx ly : Byte),
    s.getRawPixel t a lx ly =
      match (a.extractLsb' 3 3).toNat with
      | 0 => s.storedPixel t (mod8 lx) (mod8 ly)
      | 2 => s.storedPixel t (7#3 - mod8 lx) (mod8 ly)
      | 4 => s.storedPixel t (mod8 lx) (7#3 - mod8 ly)
      | 6 => s.storedPixel t (7#3 - mod8 lx) (7#3 - mod8 ly)
      | 1 => s.storedPixel t (mod8 ly) (mod8 lx)
      | 3 => s.storedPixel t (mod8 ly) (7#3 - mod8 lx)
      | 5 => s.storedPixel t (7#3 - mod8 ly) (mod8 lx)
      | _ => s.storedPixel t (7#3 - mod8 ly) (7#3 - mod8 lx)) ∧
  ∃ (s : State) (t : Byte), ∀ a b : Byte, a.extractLsb' 3 3 ≠ b.extractLsb' 3 3 →
    ∃ lx ly, s.getRawPixel t a lx ly ≠ s.getRawPixel t b lx ly

/-- The flip identities of the decoder, and that it depends on the attribute byte only through bits 5:3. -/
def Obligations.FlipIdentities : Prop :=
  (∀ (s : State) (t a lx ly : Byte), lx.toNat < 8 →
    s.getRawPixel t (a ||| 0x10#8) lx ly = s.getRawPixel t (a &&& ~~~0x10#8) (7#8 - lx) ly) ∧
  (∀ (s : State) (t a lx ly : Byte), ly.toNat < 8 →
    s.getRawPixel t (a ||| 0x20#8) lx ly = s.getRawPixel t (a &&& ~~~0x20#8) lx (7#8 - ly)) ∧
  (∀ (s : State) (t lx ly : Byte), s.getRawPixel t 0x08#8 lx ly = s.getRawPixel t 0x00#8 ly lx) ∧
  ∀ (s : State) (t a b lx ly : Byte), a.extractLsb' 3 3 = b.extractLsb' 3 3 →
    s.getRawPixel t a lx ly = s.getRawPixel t b lx ly

/-- A stored raw pixel takes one bit of each plane, plane 0 the most significant; column `x` is bit `x` of the row
byte, counted from the least significant, which is the spec's own decision (D4). -/
def Obligations.RawPixelCombinesThePlanes : Prop :=
  ∀ (s : State) (t : Byte) (x y : BitVec 3),
    (s.storedPixel t x y).toNat =
      (s.tileAt .plane0 t y).toNat / 2 ^ x.toNat % 2 * 4 + (s.tileAt .plane1 t y).toNat / 2 ^ x.toNat % 2 * 2 +
        (s.tileAt .plane2 t y).toNat / 2 ^ x.toNat % 2

/-- Transparency (R124): a raw pixel of 0 never produces a hit, in a layer or in a sprite, and a pixel is transparent
exactly when all three planes have a 0 bit at it. -/
def Obligations.RawPixelZeroNeverHits : Prop :=
  (∀ (s : State) (l : LayerId) (sx sy : Byte),
    s.getRawPixel (s.mapAt l (cellAddr (div8 (sub8 sx (s.layer l).scx)) (div8 (sub8 sy (s.layer l).scy))))
      (s.attrAt l (cellAddr (div8 (sub8 sx (s.layer l).scx)) (div8 (sub8 sy (s.layer l).scy))))
      ((mod8 (sub8 sx (s.layer l).scx)).setWidth 8) ((mod8 (sub8 sy (s.layer l).scy)).setWidth 8) = 0#3 →
    s.layerHit l sx sy = none) ∧
  (∀ (s : State) (e : Sprite) (sx line : Byte),
    s.getRawPixel e.tile e.attr (sub8 sx e.x) (sub8 line e.y) = 0#3 → s.spritePixel e sx line = none) ∧
  ∀ (s : State) (t : Byte) (x y : BitVec 3), s.storedPixel t x y = 0#3 ↔
    ∀ p : PlaneId, (s.tileAt p t y).getLsbD x.toNat = false

/-! ### Background layers -/

/-- `layer_hit` (R140), step by step in exact arithmetic: scroll, tile coordinate, grid lookup, decode, transparency,
index and priority. -/
def Obligations.LayerHitFollowsItsSteps : Prop :=
  ∀ (s : State) (l : LayerId) (sx sy : Byte),
    let rx := (sx.toNat + 256 - (s.layer l).scx.toNat) % 256
    let ry := (sy.toNat + 256 - (s.layer l).scy.toNat) % 256
    let a := BitVec.ofNat 10 ((rx / 8 + ry / 8 * 32) % 1024)
    let raw := s.getRawPixel (s.mapAt l a) (s.attrAt l a) (BitVec.ofNat 8 (rx % 8)) (BitVec.ofNat 8 (ry % 8))
    s.layerHit l sx sy =
      if s.hiddenFlag l = true then none
      else if raw = 0#3 then none
      else some { color := BitVec.ofNat 8 ((attrSub (s.attrAt l a)).toNat * 8 + raw.toNat)
                  prio := attrPrio (s.attrAt l a) }

/-- A hidden layer never produces a hit (R145), and hiding it changes nothing but its flag. -/
def Obligations.HiddenLayerNeverHits : Prop :=
  (∀ (s : State) (l : LayerId) (sx sy : Byte), s.hiddenFlag l = true → s.layerHit l sx sy = none) ∧
  ∀ (s : State) (l : LayerId), OnlyChanges [.hidden l] s (s.setHiddenFlag l true)

/-- Toroidal scrolling: adding the same amounts to a layer's scroll and to the screen position changes nothing. -/
def Obligations.ScrollingIsToroidal : Prop :=
  ∀ (s : State) (l : LayerId) (x y dx dy sx sy : Byte),
    (s.setScroll l (x + dx) (y + dy)).layerHit l (sx + dx) (sy + dy) = (s.setScroll l x y).layerHit l sx sy

/-- Every hit, of a layer or of a sprite, has a palette index in 1..63 that is no multiple of 8. -/
def Obligations.HitsNeverSelectARawZeroEntry : Prop :=
  (∀ (s : State) (l : LayerId) (sx sy : Byte) (h : Hit), s.layerHit l sx sy = some h →
    1 ≤ h.color.toNat ∧ h.color.toNat ≤ 63 ∧ h.color.toNat % 8 ≠ 0) ∧
  ∀ (s : State) (g : List Byte) (sx line : Byte) (h : Hit), s.spriteHit g sx line = some h →
    1 ≤ h.color.toNat ∧ h.color.toNat ≤ 63 ∧ h.color.toNat % 8 ≠ 0

/-- The renderer's three layer hits, with none for an absent layer, give the arbiter the same answer as the
`NUM_LAYERS` hits of R147. That a layer the PPU has not got keeps a place in the state is the model's choice (log 16). -/
def Obligations.AbsentLayersNeverWin : Prop :=
  ∀ (s : State) (sh : Option Hit) (x y : Byte),
    s.getTopPixel sh (s.layerHits x y) = s.getTopPixel sh (s.hitsOfNumLayers x y)

/-! ### Sprites -/

/-- The gathered list holds exactly the sprites whose wrapped 8-line box contains the scanline, in strictly ascending
order, with no limit. The wrapping test is the spec's own decision (D16), the missing limit D21. -/
def Obligations.GatherListsTheSpritesOnTheLine : Prop :=
  ∀ (s : State) (line : Byte),
    (∀ i, i ∈ s.gather line ↔ (line.toNat + 256 - (s.spriteAt i).y.toNat) % 256 < 8) ∧
    (s.gather line).Pairwise (fun i j => i.toNat < j.toNat)

/-- The two-phase design changes nothing: walking the gathered list gives what walking all 256 entries with the
vertical test repeated at each gives. -/
def Obligations.GatheringDoesNotChangeTheSpriteHit : Prop :=
  ∀ (s : State) (sx line : Byte),
    s.spriteHit (s.gather line) sx line = oamIndices.findSome? fun i => s.opaqueSprite i sx line

/-- The sprite hit is that of the lowest-numbered sprite with an opaque pixel at the position, whatever the priorities;
there is none when no sprite is opaque there. -/
def Obligations.LowestOpaqueSpriteSuppliesTheHit : Prop :=
  ∀ (s : State) (sx line : Byte),
    (∀ h, s.spriteHit (s.gather line) sx line = some h ↔
      ∃ i, s.opaqueSprite i sx line = some h ∧ ∀ j : Byte, j.toNat < i.toNat → s.opaqueSprite j sx line = none) ∧
    (s.spriteHit (s.gather line) sx line = none ↔ ∀ i, s.opaqueSprite i sx line = none)

/-- A sprite with `y = SCREEN_HEIGHT` is in no visible scanline's gathered list. -/
def Obligations.SpriteAtScreenHeightIsNeverGathered : Prop :=
  ∀ (s : State) (i line : Byte), (s.spriteAt i).y.toNat = Config.screenHeight →
    line.toNat < Config.screenHeight → i ∉ s.gather line

/-! ### Arbiter, palette, colours -/

/-- Sprite against background (R181): a visible sprite hit of priority `p` wins over layer hits of priority `p` or
less, and loses to a layer hit of higher priority. -/
def Obligations.SpriteWinsUpToItsOwnPriority : Prop :=
  ∀ (s : State) (sh : Option Hit) (hits : List (Option Hit)) (h : Hit), s.visibleSprite sh = some h →
    ((∀ b : Hit, some b ∈ hits → b.prio.toNat ≤ h.prio.toNat) → s.getTopPixel sh hits = h.color) ∧
    ((∃ b : Hit, some b ∈ hits ∧ h.prio.toNat < b.prio.toNat) →
      ∃ b : Hit, some b ∈ hits ∧ h.prio.toNat < b.prio.toNat ∧ s.getTopPixel sh hits = b.color)

/-- Background against background: above the sprite, the layer hit of highest priority wins, and among equals the
highest layer number. The tie-break is the spec's own decision (D5). -/
def Obligations.HighestLayerOfHighestPriorityWins : Prop :=
  ∀ (s : State) (sh : Option Hit) (hits : List (Option Hit)) (l : Nat) (b : Hit), hits[l]? = some (some b) →
    (∀ h, s.visibleSprite sh = some h → h.prio.toNat < b.prio.toNat) →
    (∀ k c, hits[k]? = some (some c) → c.prio.toNat < b.prio.toNat ∨ (c.prio = b.prio ∧ k ≤ l)) →
    s.getTopPixel sh hits = b.color

/-- The background colour (R183): with no visible sprite hit and no layer hit the result is `BGCOLOR`, zero-extended;
and that is exactly when no level has a winner. -/
def Obligations.NothingHitShowsTheBackgroundColour : Prop :=
  ∀ (s : State) (sh : Option Hit) (hits : List (Option Hit)),
    ((s.visibleSprite sh = none ∧ ∀ h ∈ hits, h = none) ↔
      ∀ level : BitVec 2, winnerAtLevel (s.visibleSprite sh) hits level = none) ∧
    ((s.visibleSprite sh = none ∧ ∀ h ∈ hits, h = none) → s.getTopPixel sh hits = s.bgcolor.setWidth 8)

/-- Hide all sprites (R184): with the flag set the arbiter answers as if there were no sprite hit, and layer hits are
unaffected by the flag. -/
def Obligations.HideSpritesActsAsNoSpriteHit : Prop :=
  (∀ (s : State) (sh : Option Hit) (hits : List (Option Hit)), s.hideSprites = true →
    s.getTopPixel sh hits = s.getTopPixel none hits) ∧
  ∀ (s : State) (flag : Bool) (x y : Byte), (s.setHideSpritesFlag flag).layerHits x y = s.layerHits x y

/-- Every palette index the arbiter gives a pixel is below 64, and the pixel's colour is that entry of the palette. -/
def Obligations.ShownIndexIsAPaletteEntry : Prop :=
  ∀ (s : State) (g : List Byte) (x y : Byte),
    (s.topIndex g x y).toNat < 64 ∧
    s.colorOf (s.topIndex g x y) = s.palAt (BitVec.ofNat 6 (s.topIndex g x y).toNat)
end

