-- ==== Sys2Proof/Laws/Encoding.lean ====
section
/-! SUPPORT. Fields of command words: what a field of a word built from placed fields is, bit by bit equality from
fields, and the layer, plane and flag fields there and back. -/

namespace Sys2Proof

theorem field_or (v w : CmdWord) (lo len : Nat) : field (v ||| w) lo len = field v lo len ||| field w lo len := by
  ext i hi
  simp [field]

/-- The field at which a value was placed is that value. -/
theorem field_place_same {n : Nat} (v : BitVec n) (lo : Nat) (h : lo + n ≤ 48) : field (place lo v) lo n = v := by
  ext i hi
  have h1 : lo + i < 48 := by omega
  simp [field, place, h1, hi]

/-- A field apart from where a value was placed reads 0. -/
theorem field_place_apart {n : Nat} (v : BitVec n) (lo lo' len : Nat) (h : lo' + len ≤ lo ∨ lo + n ≤ lo') :
    field (place lo v) lo' len = 0#len := by
  ext i hi
  rcases h with h | h
  · have : lo' + i < lo := by omega
    simp [field, place, this]
  · have : n ≤ lo' + i - lo := by omega
    simp [field, place, BitVec.getLsbD_of_ge v _ this]

/-- Two words with an equal field have equal bits there. -/
theorem getLsbD_of_field_eq {v w : CmdWord} {lo len : Nat} (h : field v lo len = field w lo len) (i : Nat)
    (h1 : lo ≤ i) (h2 : i < lo + len) : v.getLsbD i = w.getLsbD i := by
  have e := congrArg (fun u => u.getLsbD (i - lo)) h
  have a : i - lo < len := by omega
  have b : lo + (i - lo) = i := by omega
  simpa [field, a, b] using e

/-- A field inside a must-be-zero range is zero exactly when the masked word is. -/
theorem field_eq_zero_iff (w : CmdWord) (lo len : Nat) :
    field w lo len = 0#len ↔ ∀ i, lo ≤ i → i < lo + len → w.getLsbD i = false := by
  constructor
  · intro h i h1 h2
    have e := congrArg (fun u => u.getLsbD (i - lo)) h
    have a : i - lo < len := by omega
    have b : lo + (i - lo) = i := by omega
    simpa [field, a, b] using e
  · intro h
    ext i hi
    have := h (lo + i) (by omega) (by omega)
    simpa [field] using this

theorem layerOfBits_layerBits (l : LayerId) : layerOfBits (layerBits l) = some l := by cases l <;> rfl

theorem layerBits_of_layerOfBits {v : BitVec 2} {l : LayerId} (h : layerOfBits v = some l) : layerBits l = v := by
  revert h
  cases l <;> revert v <;> decide

theorem planeOfBits_planeBits (p : PlaneId) : planeOfBits (planeBits p) = some p := by cases p <;> rfl

theorem planeBits_of_planeOfBits {v : BitVec 2} {p : PlaneId} (h : planeOfBits v = some p) : planeBits p = v := by
  revert h
  cases p <;> revert v <;> decide

theorem flagOfBit_ofBool (b : Bool) : flagOfBit (BitVec.ofBool b) = b := by cases b <;> rfl

theorem ofBool_flagOfBit (v : BitVec 1) : BitVec.ofBool (flagOfBit v) = v := by revert v; decide

/-- The parameter `NUM_LAYERS` is 2 or 3 (spec/00_scope.md R7). -/
theorem numLayers_cases : Config.numLayers = 2 ∨ Config.numLayers = 3 := by
  unfold Config.numLayers
  cases Config.layerCount
  · exact .inl rfl
  · exact .inr rfl

/-- A layer is present exactly when its number is below `NUM_LAYERS` (spec/30_encoding.md R99 case 3). -/
theorem LayerId.present_iff (l : LayerId) : l.present = true ↔ l.number < Config.numLayers := by
  unfold LayerId.present LayerId.number Config.hasThirdLayer Config.numLayers
  cases Config.layerCount <;> cases l <;> decide

/-- The screen size meets the constraints of spec/00_scope.md R7. -/
theorem screen_bounds :
    1 ≤ Config.screenWidth ∧ Config.screenWidth ≤ 256 ∧ 1 ≤ Config.screenHeight ∧ Config.screenHeight ≤ 248 := by
  decide

/-- A word masked by the mask of one field is zero exactly when that field is. -/
theorem and_mask_eq_zero_iff (w m : CmdWord) (lo len : Nat) (hl : lo + len ≤ 48)
    (hm : ∀ i : Fin 48, m.getLsbD i = decide (lo ≤ i.1 ∧ i.1 < lo + len)) :
    w &&& m = 0#48 ↔ field w lo len = 0#len := by
  rw [field_eq_zero_iff]
  constructor
  · intro h i h1 h2
    have bit := congrArg (fun v => v.getLsbD i) h
    have mask := hm ⟨i, by omega⟩
    simpa [mask, h1, h2] using bit
  · intro h
    apply BitVec.eq_of_getLsbD_eq
    intro i hi
    have mask := hm ⟨i, hi⟩
    by_cases c : lo ≤ i ∧ i < lo + len
    · have := h i c.1 c.2
      simp [this]
    · simp only [c, decide_false] at mask
      simp [mask]

/-- What decodes is well-formed. -/
theorem wellFormed_of_decode {w : CmdWord} {i : Instr} (h : decode w = some i) : i.wellFormed = true := by
  unfold decode at h
  split at h
  · split at h
    · next e =>
      injection h with h
      exact h ▸ e
    · cases h
  · cases h

/-- What decodes is what the operand fields give. -/
theorem decode_eq_some_iff (w : CmdWord) (i : Instr) :
    decode w = some i ↔ decodeOperands w = some i ∧ i.wellFormed = true := by
  constructor
  · intro h
    refine ⟨?_, wellFormed_of_decode h⟩
    unfold decode at h
    split at h
    · next e =>
      split at h
      · exact e.trans h
      · cases h
    · cases h
  · rintro ⟨h1, h2⟩
    simp [decode, h1, h2]

end Sys2Proof
end

