-- ==== Sys2Proof/Laws/Memory.lean ====
section
/-! SUPPORT. The laws of sparse memory: a read after a write, and that every operation keeps the canonical form. -/

namespace Sys2Proof.Machine

open Sys2Proof

section
variable {α : Type}

theorem Memory_read_erase_same (d : α) (m : List (Nat × α)) (a : Nat) : Memory.read d (Memory.erase m a) a = d := by
  induction m with
  | nil => rfl
  | cons c m ih =>
    by_cases h : c.1 = a
    · simpa [Memory.erase, h] using ih
    · simpa [Memory.erase, h, Memory.read] using ih

theorem Memory_read_erase_other (d : α) (m : List (Nat × α)) {a b : Nat} (hab : b ≠ a) :
    Memory.read d (Memory.erase m a) b = Memory.read d m b := by
  induction m with
  | nil => rfl
  | cons c m ih =>
    by_cases h : c.1 = a
    · have hb : a ≠ b := fun e => hab e.symm
      simpa [Memory.erase, h, Memory.read, hb] using ih
    · have hc : Memory.erase (c :: m) a = c :: Memory.erase m a := by simp [Memory.erase, h]
      rw [hc]
      simp only [Memory.read, ih]

theorem Memory_erase_lacks (m : List (Nat × α)) (a : Nat) : ∀ c ∈ Memory.erase m a, c.1 ≠ a := by
  intro c hc
  simpa [Memory.erase] using (List.mem_filter.mp hc).2

theorem Memory_read_insert_same (d : α) (a : Nat) (v : α) (m : List (Nat × α)) (hm : ∀ c ∈ m, c.1 ≠ a) :
    Memory.read d (Memory.insert a v m) a = v := by
  induction m with
  | nil => simp [Memory.insert, Memory.read]
  | cons c m ih =>
    have hc : c.1 ≠ a := hm c (by simp)
    have ih' := ih fun c' h => hm c' (by simp [h])
    by_cases h : a < c.1
    · simp [Memory.insert, h, Memory.read]
    · simpa [Memory.insert, h, Memory.read, hc] using ih'

theorem Memory_read_insert_other (d : α) {a b : Nat} (v : α) (m : List (Nat × α)) (hab : b ≠ a) :
    Memory.read d (Memory.insert a v m) b = Memory.read d m b := by
  have hba : a ≠ b := fun e => hab e.symm
  induction m with
  | nil => simp [Memory.insert, Memory.read, hba]
  | cons c m ih =>
    by_cases h : a < c.1
    · simp [Memory.insert, h, Memory.read, hba]
    · simp only [Memory.insert, h, if_false, Memory.read, ih]

theorem Memory_erase_insert (m : List (Nat × α)) (a : Nat) (v : α) :
    Memory.erase (Memory.insert a v m) a = Memory.erase m a := by
  induction m with
  | nil => simp [Memory.insert, Memory.erase]
  | cons c m ih =>
    by_cases h : a < c.1
    · simp [Memory.insert, h, Memory.erase]
    · have := ih
      simp only [Memory.insert, h, if_false, Memory.erase, List.filter_cons] at this ⊢
      rw [this]

theorem Memory_erase_erase (m : List (Nat × α)) (a : Nat) : Memory.erase (Memory.erase m a) a = Memory.erase m a := by
  simp [Memory.erase]

variable [DecidableEq α]

/-- A read of the entry just written gives the value written. -/
theorem Memory_read_write_same (d : α) (m : List (Nat × α)) (a : Nat) (v : α) :
    Memory.read d (Memory.write d m a v) a = v := by
  unfold Memory.write
  split
  next h => rw [Memory_read_erase_same, h]
  next => exact Memory_read_insert_same d a v _ (Memory_erase_lacks m a)

/-- A write leaves every other entry alone. -/
theorem Memory_read_write_other (d : α) (m : List (Nat × α)) {a b : Nat} (v : α) (hab : b ≠ a) :
    Memory.read d (Memory.write d m a v) b = Memory.read d m b := by
  unfold Memory.write
  split
  next => exact Memory_read_erase_other d m hab
  next => rw [Memory_read_insert_other d v _ hab, Memory_read_erase_other d m hab]

/-- Writing the same value to the same entry again gives the same list. -/
theorem Memory_write_write (d : α) (m : List (Nat × α)) (a : Nat) (v : α) :
    Memory.write d (Memory.write d m a v) a v = Memory.write d m a v := by
  unfold Memory.write
  split
  next => rw [Memory_erase_erase]
  next => rw [Memory_erase_insert, Memory_erase_erase]

theorem Memory_wfFrom_mono (d : α) (size : Nat) {lo lo' : Nat} (h : lo' ≤ lo) (m : List (Nat × α))
    (hm : Memory.wfFrom d size lo m = true) : Memory.wfFrom d size lo' m = true := by
  cases m with
  | nil => rfl
  | cons c m =>
    simp only [Memory.wfFrom, Bool.and_eq_true, decide_eq_true_eq] at hm ⊢
    exact ⟨⟨⟨by omega, hm.1.1.2⟩, hm.1.2⟩, hm.2⟩

theorem Memory_wfFrom_erase (d : α) (size lo : Nat) (m : List (Nat × α)) (a : Nat)
    (hm : Memory.wfFrom d size lo m = true) : Memory.wfFrom d size lo (Memory.erase m a) = true := by
  induction m generalizing lo with
  | nil => rfl
  | cons c m ih =>
    simp only [Memory.wfFrom, Bool.and_eq_true, decide_eq_true_eq] at hm
    by_cases h : c.1 = a
    · have he : Memory.erase (c :: m) a = Memory.erase m a := by simp [Memory.erase, h]
      rw [he]
      exact Memory_wfFrom_mono d size (by omega) _ (ih (c.1 + 1) hm.2)
    · have he : Memory.erase (c :: m) a = c :: Memory.erase m a := by simp [Memory.erase, h]
      rw [he]
      simp only [Memory.wfFrom, Bool.and_eq_true, decide_eq_true_eq]
      exact ⟨hm.1, ih (c.1 + 1) hm.2⟩

theorem Memory_wfFrom_insert (d : α) (size lo : Nat) {a : Nat} {v : α} (m : List (Nat × α)) (hlo : lo ≤ a)
    (ha : a < size) (hv : v ≠ d) (hlacks : ∀ c ∈ m, c.1 ≠ a) (hm : Memory.wfFrom d size lo m = true) :
    Memory.wfFrom d size lo (Memory.insert a v m) = true := by
  induction m generalizing lo with
  | nil => simp [Memory.insert, Memory.wfFrom, hlo, ha, hv]
  | cons c m ih =>
    simp only [Memory.wfFrom, Bool.and_eq_true, decide_eq_true_eq] at hm
    have hc : c.1 ≠ a := hlacks c (by simp)
    by_cases h : a < c.1
    · simp only [Memory.insert, h, if_true, Memory.wfFrom, Bool.and_eq_true, decide_eq_true_eq]
      exact ⟨⟨⟨hlo, ha⟩, hv⟩, ⟨⟨by omega, hm.1.1.2⟩, hm.1.2⟩, hm.2⟩
    · simp only [Memory.insert, h, if_false, Memory.wfFrom, Bool.and_eq_true, decide_eq_true_eq]
      exact ⟨hm.1, ih (c.1 + 1) (by omega) (fun c' h' => hlacks c' (by simp [h'])) hm.2⟩

/-- A write to a key of the space keeps the canonical form. -/
theorem Memory_wf_write (d : α) (size : Nat) (m : List (Nat × α)) {a : Nat} (v : α) (ha : a < size)
    (hm : Memory.wf d size m = true) : Memory.wf d size (Memory.write d m a v) = true := by
  unfold Memory.wf at hm ⊢
  unfold Memory.write
  split
  next => exact Memory_wfFrom_erase d size 0 m a hm
  next h =>
    exact Memory_wfFrom_insert d size 0 _ (Nat.zero_le a) ha h (Memory_erase_lacks m a)
      (Memory_wfFrom_erase d size 0 m a hm)

/-- The memory that lists nothing is in canonical form. -/
theorem Memory_wf_nil (d : α) (size : Nat) : Memory.wf d size [] = true := rfl

end

/-- Two row bytes of a plane share a key only when tile and row agree. -/
theorem tileKey_inj {t t' : Byte} {r r' : BitVec 3} : tileKey t r = tileKey t' r' ↔ t = t' ∧ r = r' := by
  constructor
  · intro h
    have h1 := r.isLt
    have h2 := r'.isLt
    simp only [tileKey] at h
    exact ⟨BitVec.eq_of_toNat_eq (by omega), BitVec.eq_of_toNat_eq (by omega)⟩
  · rintro ⟨rfl, rfl⟩
    rfl

theorem tileKey_lt (t : Byte) (r : BitVec 3) : tileKey t r < 2048 := by
  have h1 := t.isLt
  have h2 := r.isLt
  simp only [tileKey]
  omega

end Sys2Proof.Machine
end

