-- ==== Sys2Proof/Laws/PerInstr.lean ====
section
/-! SUPPORT. The family TableRow: the word of each command matches its row of spec/opcode_table.json, that is, masked
by the row's `mask` it is the row's `match` (spec/30_encoding.md R98). -/

namespace Sys2Proof

/-- A field placed where the mask has no bit does not show through the mask. -/
theorem or_place_and_mask {n : Nat} (w : CmdWord) (lo : Nat) (v : BitVec n) (m : CmdWord) (h : field m lo n = 0#n) :
    (w ||| place lo v) &&& m = w &&& m := by
  ext i hi
  by_cases h1 : lo ≤ i
  · by_cases h2 : i < lo + n
    · have hm := (field_eq_zero_iff m lo n).mp h i h1 h2
      rw [BitVec.getLsbD_eq_getElem hi] at hm
      simp [hm]
    · have : n ≤ i - lo := by omega
      simp [place, BitVec.getLsbD_of_ge v _ this]
  · have : i < lo := by omega
    simp [place, this]

end Sys2Proof

namespace Sys2Proof.Laws.TableRow

open Sys2Proof

/-- The command's word matches its row of the opcode table. -/
def Statement (i : Instr) : Prop := encode i &&& tableMask i = tableMatch i

theorem pokeTile (layer : LayerId) (tx ty : BitVec 5) (data : Byte) : Statement (.pokeTile layer tx ty data) := by
  simp only [Statement, encode, tableMask, tableMatch]
  rw [or_place_and_mask _ 0 _ _ (by decide), or_place_and_mask _ 8 _ _ (by decide),
    or_place_and_mask _ 13 _ _ (by decide), or_place_and_mask _ 18 _ _ (by decide)]
  rfl

theorem pokeAttr (layer : LayerId) (tx ty : BitVec 5) (data : Byte) : Statement (.pokeAttr layer tx ty data) := by
  simp only [Statement, encode, tableMask, tableMatch]
  rw [or_place_and_mask _ 0 _ _ (by decide), or_place_and_mask _ 8 _ _ (by decide),
    or_place_and_mask _ 13 _ _ (by decide), or_place_and_mask _ 18 _ _ (by decide)]
  rfl

theorem setScroll (layer : LayerId) (x y : Byte) : Statement (.setScroll layer x y) := by
  simp only [Statement, encode, tableMask, tableMatch]
  rw [or_place_and_mask _ 0 _ _ (by decide), or_place_and_mask _ 8 _ _ (by decide),
    or_place_and_mask _ 16 _ _ (by decide)]
  rfl

theorem setHidden (layer : LayerId) (flag : Bool) : Statement (.setHidden layer flag) := by
  simp only [Statement, encode, tableMask, tableMatch]
  rw [or_place_and_mask _ 0 _ _ (by decide), or_place_and_mask _ 8 _ _ (by decide)]
  rfl

theorem setSprite (idx x y tile attr : Byte) : Statement (.setSprite idx x y tile attr) := by
  simp only [Statement, encode, tableMask, tableMatch]
  rw [or_place_and_mask _ 0 _ _ (by decide), or_place_and_mask _ 8 _ _ (by decide),
    or_place_and_mask _ 16 _ _ (by decide), or_place_and_mask _ 24 _ _ (by decide),
    or_place_and_mask _ 32 _ _ (by decide)]
  rfl

theorem hideSprite (idx : Byte) : Statement (.hideSprite idx) := by
  simp only [Statement, encode, tableMask, tableMatch]
  rw [or_place_and_mask _ 32 _ _ (by decide)]
  rfl

theorem setPalette (pidx : BitVec 6) (r g b : Byte) : Statement (.setPalette pidx r g b) := by
  simp only [Statement, encode, tableMask, tableMatch]
  rw [or_place_and_mask _ 0 _ _ (by decide), or_place_and_mask _ 8 _ _ (by decide),
    or_place_and_mask _ 16 _ _ (by decide), or_place_and_mask _ 24 _ _ (by decide)]
  rfl

theorem setTileRow (plane : PlaneId) (tile : Byte) (row : BitVec 3) (data : Byte) :
    Statement (.setTileRow plane tile row data) := by
  simp only [Statement, encode, tableMask, tableMatch]
  rw [or_place_and_mask _ 0 _ _ (by decide), or_place_and_mask _ 8 _ _ (by decide),
    or_place_and_mask _ 11 _ _ (by decide), or_place_and_mask _ 19 _ _ (by decide)]
  rfl

theorem setBgcolor (pidx : BitVec 6) : Statement (.setBgcolor pidx) := by
  simp only [Statement, encode, tableMask, tableMatch]
  rw [or_place_and_mask _ 0 _ _ (by decide)]
  rfl

theorem setHideSprites (flag : Bool) : Statement (.setHideSprites flag) := by
  simp only [Statement, encode, tableMask, tableMatch]
  rw [or_place_and_mask _ 0 _ _ (by decide)]
  rfl

theorem peekTile (layer : LayerId) (tx ty : BitVec 5) : Statement (.peekTile layer tx ty) := by
  simp only [Statement, encode, tableMask, tableMatch]
  rw [or_place_and_mask _ 8 _ _ (by decide), or_place_and_mask _ 13 _ _ (by decide),
    or_place_and_mask _ 18 _ _ (by decide)]
  rfl

theorem peekAttr (layer : LayerId) (tx ty : BitVec 5) : Statement (.peekAttr layer tx ty) := by
  simp only [Statement, encode, tableMask, tableMatch]
  rw [or_place_and_mask _ 8 _ _ (by decide), or_place_and_mask _ 13 _ _ (by decide),
    or_place_and_mask _ 18 _ _ (by decide)]
  rfl

theorem readPixel (x y : Byte) : Statement (.readPixel x y) := by
  simp only [Statement, encode, tableMask, tableMatch]
  rw [or_place_and_mask _ 0 _ _ (by decide), or_place_and_mask _ 8 _ _ (by decide)]
  rfl

theorem readPixelArgb (x y : Byte) : Statement (.readPixelArgb x y) := by
  simp only [Statement, encode, tableMask, tableMatch]
  rw [or_place_and_mask _ 0 _ _ (by decide), or_place_and_mask _ 8 _ _ (by decide)]
  rfl

theorem renderFrame : Statement .renderFrame := by
  simp only [Statement, encode, tableMask, tableMatch]
  rfl

end Sys2Proof.Laws.TableRow
end

