-- ==== Sys2Proof/Laws/State.lean ====
section
/-! SUPPORT. What each update of the state does to each field, layer and plane, and what each memory read gives after
each memory write; so that no later proof unfolds a record update. -/

namespace Sys2Proof.Machine

open Sys2Proof

/-! ### Updates of one field -/

@[simp] theorem State.setPal_pal (s : State) (i : BitVec 6) (c : Color) : (s.setPal i c).pal = Memory.write resetColor s.pal i.toNat c := rfl
@[simp] theorem State.setPal_tile0 (s : State) (i : BitVec 6) (c : Color) : (s.setPal i c).tile0 = s.tile0 := rfl
@[simp] theorem State.setPal_tile1 (s : State) (i : BitVec 6) (c : Color) : (s.setPal i c).tile1 = s.tile1 := rfl
@[simp] theorem State.setPal_tile2 (s : State) (i : BitVec 6) (c : Color) : (s.setPal i c).tile2 = s.tile2 := rfl
@[simp] theorem State.setPal_bg0 (s : State) (i : BitVec 6) (c : Color) : (s.setPal i c).bg0 = s.bg0 := rfl
@[simp] theorem State.setPal_bg1 (s : State) (i : BitVec 6) (c : Color) : (s.setPal i c).bg1 = s.bg1 := rfl
@[simp] theorem State.setPal_bg2 (s : State) (i : BitVec 6) (c : Color) : (s.setPal i c).bg2 = s.bg2 := rfl
@[simp] theorem State.setPal_oam (s : State) (i : BitVec 6) (c : Color) : (s.setPal i c).oam = s.oam := rfl
@[simp] theorem State.setPal_bgcolor (s : State) (i : BitVec 6) (c : Color) : (s.setPal i c).bgcolor = s.bgcolor := rfl
@[simp] theorem State.setPal_hideSprites (s : State) (i : BitVec 6) (c : Color) : (s.setPal i c).hideSprites = s.hideSprites := rfl
@[simp] theorem State.setPal_fb (s : State) (i : BitVec 6) (c : Color) : (s.setPal i c).fb = s.fb := rfl
@[simp] theorem State.setPal_commands (s : State) (i : BitVec 6) (c : Color) : (s.setPal i c).commands = s.commands := rfl
@[simp] theorem State.setPal_responses (s : State) (i : BitVec 6) (c : Color) : (s.setPal i c).responses = s.responses := rfl
@[simp] theorem State.setPal_plane (s : State) (i : BitVec 6) (c : Color) (p : PlaneId) : (s.setPal i c).plane p = s.plane p := by cases p <;> rfl
@[simp] theorem State.setPal_layer (s : State) (i : BitVec 6) (c : Color) (l : LayerId) : (s.setPal i c).layer l = s.layer l := by cases l <;> rfl

@[simp] theorem State.setSprite_pal (s : State) (i : Byte) (e : Sprite) : (s.setSprite i e).pal = s.pal := rfl
@[simp] theorem State.setSprite_tile0 (s : State) (i : Byte) (e : Sprite) : (s.setSprite i e).tile0 = s.tile0 := rfl
@[simp] theorem State.setSprite_tile1 (s : State) (i : Byte) (e : Sprite) : (s.setSprite i e).tile1 = s.tile1 := rfl
@[simp] theorem State.setSprite_tile2 (s : State) (i : Byte) (e : Sprite) : (s.setSprite i e).tile2 = s.tile2 := rfl
@[simp] theorem State.setSprite_bg0 (s : State) (i : Byte) (e : Sprite) : (s.setSprite i e).bg0 = s.bg0 := rfl
@[simp] theorem State.setSprite_bg1 (s : State) (i : Byte) (e : Sprite) : (s.setSprite i e).bg1 = s.bg1 := rfl
@[simp] theorem State.setSprite_bg2 (s : State) (i : Byte) (e : Sprite) : (s.setSprite i e).bg2 = s.bg2 := rfl
@[simp] theorem State.setSprite_oam (s : State) (i : Byte) (e : Sprite) : (s.setSprite i e).oam = Memory.write resetSprite s.oam i.toNat e := rfl
@[simp] theorem State.setSprite_bgcolor (s : State) (i : Byte) (e : Sprite) : (s.setSprite i e).bgcolor = s.bgcolor := rfl
@[simp] theorem State.setSprite_hideSprites (s : State) (i : Byte) (e : Sprite) : (s.setSprite i e).hideSprites = s.hideSprites := rfl
@[simp] theorem State.setSprite_fb (s : State) (i : Byte) (e : Sprite) : (s.setSprite i e).fb = s.fb := rfl
@[simp] theorem State.setSprite_commands (s : State) (i : Byte) (e : Sprite) : (s.setSprite i e).commands = s.commands := rfl
@[simp] theorem State.setSprite_responses (s : State) (i : Byte) (e : Sprite) : (s.setSprite i e).responses = s.responses := rfl
@[simp] theorem State.setSprite_plane (s : State) (i : Byte) (e : Sprite) (p : PlaneId) : (s.setSprite i e).plane p = s.plane p := by cases p <;> rfl
@[simp] theorem State.setSprite_layer (s : State) (i : Byte) (e : Sprite) (l : LayerId) : (s.setSprite i e).layer l = s.layer l := by cases l <;> rfl

@[simp] theorem State.setBgcolor_pal (s : State) (v : BitVec 6) : (s.setBgcolor v).pal = s.pal := rfl
@[simp] theorem State.setBgcolor_tile0 (s : State) (v : BitVec 6) : (s.setBgcolor v).tile0 = s.tile0 := rfl
@[simp] theorem State.setBgcolor_tile1 (s : State) (v : BitVec 6) : (s.setBgcolor v).tile1 = s.tile1 := rfl
@[simp] theorem State.setBgcolor_tile2 (s : State) (v : BitVec 6) : (s.setBgcolor v).tile2 = s.tile2 := rfl
@[simp] theorem State.setBgcolor_bg0 (s : State) (v : BitVec 6) : (s.setBgcolor v).bg0 = s.bg0 := rfl
@[simp] theorem State.setBgcolor_bg1 (s : State) (v : BitVec 6) : (s.setBgcolor v).bg1 = s.bg1 := rfl
@[simp] theorem State.setBgcolor_bg2 (s : State) (v : BitVec 6) : (s.setBgcolor v).bg2 = s.bg2 := rfl
@[simp] theorem State.setBgcolor_oam (s : State) (v : BitVec 6) : (s.setBgcolor v).oam = s.oam := rfl
@[simp] theorem State.setBgcolor_bgcolor (s : State) (v : BitVec 6) : (s.setBgcolor v).bgcolor = v := rfl
@[simp] theorem State.setBgcolor_hideSprites (s : State) (v : BitVec 6) : (s.setBgcolor v).hideSprites = s.hideSprites := rfl
@[simp] theorem State.setBgcolor_fb (s : State) (v : BitVec 6) : (s.setBgcolor v).fb = s.fb := rfl
@[simp] theorem State.setBgcolor_commands (s : State) (v : BitVec 6) : (s.setBgcolor v).commands = s.commands := rfl
@[simp] theorem State.setBgcolor_responses (s : State) (v : BitVec 6) : (s.setBgcolor v).responses = s.responses := rfl
@[simp] theorem State.setBgcolor_plane (s : State) (v : BitVec 6) (p : PlaneId) : (s.setBgcolor v).plane p = s.plane p := by cases p <;> rfl
@[simp] theorem State.setBgcolor_layer (s : State) (v : BitVec 6) (l : LayerId) : (s.setBgcolor v).layer l = s.layer l := by cases l <;> rfl

@[simp] theorem State.setHideSpritesFlag_pal (s : State) (v : Bool) : (s.setHideSpritesFlag v).pal = s.pal := rfl
@[simp] theorem State.setHideSpritesFlag_tile0 (s : State) (v : Bool) : (s.setHideSpritesFlag v).tile0 = s.tile0 := rfl
@[simp] theorem State.setHideSpritesFlag_tile1 (s : State) (v : Bool) : (s.setHideSpritesFlag v).tile1 = s.tile1 := rfl
@[simp] theorem State.setHideSpritesFlag_tile2 (s : State) (v : Bool) : (s.setHideSpritesFlag v).tile2 = s.tile2 := rfl
@[simp] theorem State.setHideSpritesFlag_bg0 (s : State) (v : Bool) : (s.setHideSpritesFlag v).bg0 = s.bg0 := rfl
@[simp] theorem State.setHideSpritesFlag_bg1 (s : State) (v : Bool) : (s.setHideSpritesFlag v).bg1 = s.bg1 := rfl
@[simp] theorem State.setHideSpritesFlag_bg2 (s : State) (v : Bool) : (s.setHideSpritesFlag v).bg2 = s.bg2 := rfl
@[simp] theorem State.setHideSpritesFlag_oam (s : State) (v : Bool) : (s.setHideSpritesFlag v).oam = s.oam := rfl
@[simp] theorem State.setHideSpritesFlag_bgcolor (s : State) (v : Bool) : (s.setHideSpritesFlag v).bgcolor = s.bgcolor := rfl
@[simp] theorem State.setHideSpritesFlag_hideSprites (s : State) (v : Bool) : (s.setHideSpritesFlag v).hideSprites = v := rfl
@[simp] theorem State.setHideSpritesFlag_fb (s : State) (v : Bool) : (s.setHideSpritesFlag v).fb = s.fb := rfl
@[simp] theorem State.setHideSpritesFlag_commands (s : State) (v : Bool) : (s.setHideSpritesFlag v).commands = s.commands := rfl
@[simp] theorem State.setHideSpritesFlag_responses (s : State) (v : Bool) : (s.setHideSpritesFlag v).responses = s.responses := rfl
@[simp] theorem State.setHideSpritesFlag_plane (s : State) (v : Bool) (p : PlaneId) : (s.setHideSpritesFlag v).plane p = s.plane p := by cases p <;> rfl
@[simp] theorem State.setHideSpritesFlag_layer (s : State) (v : Bool) (l : LayerId) : (s.setHideSpritesFlag v).layer l = s.layer l := by cases l <;> rfl

@[simp] theorem State.setFrame_pal (s : State) (f : List (List Color)) : (s.setFrame f).pal = s.pal := rfl
@[simp] theorem State.setFrame_tile0 (s : State) (f : List (List Color)) : (s.setFrame f).tile0 = s.tile0 := rfl
@[simp] theorem State.setFrame_tile1 (s : State) (f : List (List Color)) : (s.setFrame f).tile1 = s.tile1 := rfl
@[simp] theorem State.setFrame_tile2 (s : State) (f : List (List Color)) : (s.setFrame f).tile2 = s.tile2 := rfl
@[simp] theorem State.setFrame_bg0 (s : State) (f : List (List Color)) : (s.setFrame f).bg0 = s.bg0 := rfl
@[simp] theorem State.setFrame_bg1 (s : State) (f : List (List Color)) : (s.setFrame f).bg1 = s.bg1 := rfl
@[simp] theorem State.setFrame_bg2 (s : State) (f : List (List Color)) : (s.setFrame f).bg2 = s.bg2 := rfl
@[simp] theorem State.setFrame_oam (s : State) (f : List (List Color)) : (s.setFrame f).oam = s.oam := rfl
@[simp] theorem State.setFrame_bgcolor (s : State) (f : List (List Color)) : (s.setFrame f).bgcolor = s.bgcolor := rfl
@[simp] theorem State.setFrame_hideSprites (s : State) (f : List (List Color)) : (s.setFrame f).hideSprites = s.hideSprites := rfl
@[simp] theorem State.setFrame_fb (s : State) (f : List (List Color)) : (s.setFrame f).fb = f := rfl
@[simp] theorem State.setFrame_commands (s : State) (f : List (List Color)) : (s.setFrame f).commands = s.commands := rfl
@[simp] theorem State.setFrame_responses (s : State) (f : List (List Color)) : (s.setFrame f).responses = s.responses := rfl
@[simp] theorem State.setFrame_plane (s : State) (f : List (List Color)) (p : PlaneId) : (s.setFrame f).plane p = s.plane p := by cases p <;> rfl
@[simp] theorem State.setFrame_layer (s : State) (f : List (List Color)) (l : LayerId) : (s.setFrame f).layer l = s.layer l := by cases l <;> rfl

@[simp] theorem State.respond_pal (s : State) (r : Response) : (s.respond r).pal = s.pal := rfl
@[simp] theorem State.respond_tile0 (s : State) (r : Response) : (s.respond r).tile0 = s.tile0 := rfl
@[simp] theorem State.respond_tile1 (s : State) (r : Response) : (s.respond r).tile1 = s.tile1 := rfl
@[simp] theorem State.respond_tile2 (s : State) (r : Response) : (s.respond r).tile2 = s.tile2 := rfl
@[simp] theorem State.respond_bg0 (s : State) (r : Response) : (s.respond r).bg0 = s.bg0 := rfl
@[simp] theorem State.respond_bg1 (s : State) (r : Response) : (s.respond r).bg1 = s.bg1 := rfl
@[simp] theorem State.respond_bg2 (s : State) (r : Response) : (s.respond r).bg2 = s.bg2 := rfl
@[simp] theorem State.respond_oam (s : State) (r : Response) : (s.respond r).oam = s.oam := rfl
@[simp] theorem State.respond_bgcolor (s : State) (r : Response) : (s.respond r).bgcolor = s.bgcolor := rfl
@[simp] theorem State.respond_hideSprites (s : State) (r : Response) : (s.respond r).hideSprites = s.hideSprites := rfl
@[simp] theorem State.respond_fb (s : State) (r : Response) : (s.respond r).fb = s.fb := rfl
@[simp] theorem State.respond_commands (s : State) (r : Response) : (s.respond r).commands = s.commands := rfl
@[simp] theorem State.respond_responses (s : State) (r : Response) : (s.respond r).responses = r :: s.responses := rfl
@[simp] theorem State.respond_plane (s : State) (r : Response) (p : PlaneId) : (s.respond r).plane p = s.plane p := by cases p <;> rfl
@[simp] theorem State.respond_layer (s : State) (r : Response) (l : LayerId) : (s.respond r).layer l = s.layer l := by cases l <;> rfl

@[simp] theorem State.presentCommand_pal (s : State) (w : CmdWord) : (s.presentCommand w).pal = s.pal := rfl
@[simp] theorem State.presentCommand_tile0 (s : State) (w : CmdWord) : (s.presentCommand w).tile0 = s.tile0 := rfl
@[simp] theorem State.presentCommand_tile1 (s : State) (w : CmdWord) : (s.presentCommand w).tile1 = s.tile1 := rfl
@[simp] theorem State.presentCommand_tile2 (s : State) (w : CmdWord) : (s.presentCommand w).tile2 = s.tile2 := rfl
@[simp] theorem State.presentCommand_bg0 (s : State) (w : CmdWord) : (s.presentCommand w).bg0 = s.bg0 := rfl
@[simp] theorem State.presentCommand_bg1 (s : State) (w : CmdWord) : (s.presentCommand w).bg1 = s.bg1 := rfl
@[simp] theorem State.presentCommand_bg2 (s : State) (w : CmdWord) : (s.presentCommand w).bg2 = s.bg2 := rfl
@[simp] theorem State.presentCommand_oam (s : State) (w : CmdWord) : (s.presentCommand w).oam = s.oam := rfl
@[simp] theorem State.presentCommand_bgcolor (s : State) (w : CmdWord) : (s.presentCommand w).bgcolor = s.bgcolor := rfl
@[simp] theorem State.presentCommand_hideSprites (s : State) (w : CmdWord) : (s.presentCommand w).hideSprites = s.hideSprites := rfl
@[simp] theorem State.presentCommand_fb (s : State) (w : CmdWord) : (s.presentCommand w).fb = s.fb := rfl
@[simp] theorem State.presentCommand_commands (s : State) (w : CmdWord) : (s.presentCommand w).commands = w :: s.commands := rfl
@[simp] theorem State.presentCommand_responses (s : State) (w : CmdWord) : (s.presentCommand w).responses = s.responses := rfl
@[simp] theorem State.presentCommand_plane (s : State) (w : CmdWord) (p : PlaneId) : (s.presentCommand w).plane p = s.plane p := by cases p <;> rfl
@[simp] theorem State.presentCommand_layer (s : State) (w : CmdWord) (l : LayerId) : (s.presentCommand w).layer l = s.layer l := by cases l <;> rfl

/-! ### Updates of one plane or one layer -/

@[simp] theorem State.setPlane_pal (s : State) (p : PlaneId) (m : List Host.Cell) : (s.setPlane p m).pal = s.pal := by cases p <;> rfl
@[simp] theorem State.setPlane_bg0 (s : State) (p : PlaneId) (m : List Host.Cell) : (s.setPlane p m).bg0 = s.bg0 := by cases p <;> rfl
@[simp] theorem State.setPlane_bg1 (s : State) (p : PlaneId) (m : List Host.Cell) : (s.setPlane p m).bg1 = s.bg1 := by cases p <;> rfl
@[simp] theorem State.setPlane_bg2 (s : State) (p : PlaneId) (m : List Host.Cell) : (s.setPlane p m).bg2 = s.bg2 := by cases p <;> rfl
@[simp] theorem State.setPlane_oam (s : State) (p : PlaneId) (m : List Host.Cell) : (s.setPlane p m).oam = s.oam := by cases p <;> rfl
@[simp] theorem State.setPlane_bgcolor (s : State) (p : PlaneId) (m : List Host.Cell) : (s.setPlane p m).bgcolor = s.bgcolor := by cases p <;> rfl
@[simp] theorem State.setPlane_hideSprites (s : State) (p : PlaneId) (m : List Host.Cell) : (s.setPlane p m).hideSprites = s.hideSprites := by cases p <;> rfl
@[simp] theorem State.setPlane_fb (s : State) (p : PlaneId) (m : List Host.Cell) : (s.setPlane p m).fb = s.fb := by cases p <;> rfl
@[simp] theorem State.setPlane_commands (s : State) (p : PlaneId) (m : List Host.Cell) : (s.setPlane p m).commands = s.commands := by cases p <;> rfl
@[simp] theorem State.setPlane_responses (s : State) (p : PlaneId) (m : List Host.Cell) : (s.setPlane p m).responses = s.responses := by cases p <;> rfl
@[simp] theorem State.setPlane_layer (s : State) (p : PlaneId) (m : List Host.Cell) (l : LayerId) : (s.setPlane p m).layer l = s.layer l := by cases p <;> cases l <;> rfl
@[simp] theorem State.setPlane_plane (s : State) (p : PlaneId) (m : List Host.Cell) (q : PlaneId) : (s.setPlane p m).plane q = if q = p then m else s.plane q := by cases p <;> cases q <;> rfl

@[simp] theorem State.setLayer_pal (s : State) (l : LayerId) (b : Layer) : (s.setLayer l b).pal = s.pal := by cases l <;> rfl
@[simp] theorem State.setLayer_tile0 (s : State) (l : LayerId) (b : Layer) : (s.setLayer l b).tile0 = s.tile0 := by cases l <;> rfl
@[simp] theorem State.setLayer_tile1 (s : State) (l : LayerId) (b : Layer) : (s.setLayer l b).tile1 = s.tile1 := by cases l <;> rfl
@[simp] theorem State.setLayer_tile2 (s : State) (l : LayerId) (b : Layer) : (s.setLayer l b).tile2 = s.tile2 := by cases l <;> rfl
@[simp] theorem State.setLayer_oam (s : State) (l : LayerId) (b : Layer) : (s.setLayer l b).oam = s.oam := by cases l <;> rfl
@[simp] theorem State.setLayer_bgcolor (s : State) (l : LayerId) (b : Layer) : (s.setLayer l b).bgcolor = s.bgcolor := by cases l <;> rfl
@[simp] theorem State.setLayer_hideSprites (s : State) (l : LayerId) (b : Layer) : (s.setLayer l b).hideSprites = s.hideSprites := by cases l <;> rfl
@[simp] theorem State.setLayer_fb (s : State) (l : LayerId) (b : Layer) : (s.setLayer l b).fb = s.fb := by cases l <;> rfl
@[simp] theorem State.setLayer_commands (s : State) (l : LayerId) (b : Layer) : (s.setLayer l b).commands = s.commands := by cases l <;> rfl
@[simp] theorem State.setLayer_responses (s : State) (l : LayerId) (b : Layer) : (s.setLayer l b).responses = s.responses := by cases l <;> rfl
@[simp] theorem State.setLayer_plane (s : State) (l : LayerId) (b : Layer) (p : PlaneId) : (s.setLayer l b).plane p = s.plane p := by cases l <;> cases p <;> rfl
@[simp] theorem State.setLayer_layer (s : State) (l : LayerId) (b : Layer) (k : LayerId) : (s.setLayer l b).layer k = if k = l then b else s.layer k := by cases l <;> cases k <;> rfl

/-! ### A memory read after a memory write (read after write, and every other entry left alone) -/

theorem State.palAt_setPal (s : State) (i j : BitVec 6) (c : Color) :
    (s.setPal i c).palAt j = if j = i then c else s.palAt j := by
  unfold State.palAt
  split
  next h => rw [State.setPal_pal, h, Memory_read_write_same]
  next h => rw [State.setPal_pal, Memory_read_write_other _ _ _ fun e => h (BitVec.eq_of_toNat_eq e)]

theorem State.spriteAt_setSprite (s : State) (i j : Byte) (e : Sprite) :
    (s.setSprite i e).spriteAt j = if j = i then e else s.spriteAt j := by
  unfold State.spriteAt
  split
  next h => rw [State.setSprite_oam, h, Memory_read_write_same]
  next h => rw [State.setSprite_oam, Memory_read_write_other _ _ _ fun e => h (BitVec.eq_of_toNat_eq e)]

theorem State.tileAt_setTile (s : State) (p q : PlaneId) (t u : Byte) (r k : BitVec 3) (v : Byte) :
    (s.setTile p t r v).tileAt q u k = if q = p ∧ u = t ∧ k = r then v else s.tileAt q u k := by
  unfold State.tileAt State.setTile
  rw [State.setPlane_plane]
  by_cases hq : q = p
  · subst hq
    by_cases hk : u = t ∧ k = r
    · obtain ⟨rfl, rfl⟩ := hk
      simp [Memory_read_write_same]
    · have hne : tileKey u k ≠ tileKey t r := fun e => hk (tileKey_inj.mp e)
      simp [hk, Memory_read_write_other _ _ _ hne]
  · simp [hq]

theorem State.mapAt_setMap (s : State) (l k : LayerId) (a b : BitVec 10) (v : Byte) :
    (s.setMap l a v).mapAt k b = if k = l ∧ b = a then v else s.mapAt k b := by
  unfold State.mapAt State.setMap
  rw [State.setLayer_layer]
  by_cases hk : k = l
  · subst hk
    by_cases hb : b = a
    · subst hb
      simp [Memory_read_write_same]
    · have hne : b.toNat ≠ a.toNat := fun e => hb (BitVec.eq_of_toNat_eq e)
      simp [hb, Memory_read_write_other _ _ _ hne]
  · simp [hk]

theorem State.attrAt_setAttr (s : State) (l k : LayerId) (a b : BitVec 10) (v : Byte) :
    (s.setAttr l a v).attrAt k b = if k = l ∧ b = a then v else s.attrAt k b := by
  unfold State.attrAt State.setAttr
  rw [State.setLayer_layer]
  by_cases hk : k = l
  · subst hk
    by_cases hb : b = a
    · subst hb
      simp [Memory_read_write_same]
    · have hne : b.toNat ≠ a.toNat := fun e => hb (BitVec.eq_of_toNat_eq e)
      simp [hb, Memory_read_write_other _ _ _ hne]
  · simp [hk]

/-! ### Reads an update does not touch -/

@[simp] theorem State.palAt_setSprite (s : State) (i : Byte) (e : Sprite) (j : BitVec 6) :
    (s.setSprite i e).palAt j = s.palAt j := rfl
@[simp] theorem State.palAt_setBgcolor (s : State) (v : BitVec 6) (j : BitVec 6) :
    (s.setBgcolor v).palAt j = s.palAt j := rfl
@[simp] theorem State.palAt_setHideSpritesFlag (s : State) (v : Bool) (j : BitVec 6) :
    (s.setHideSpritesFlag v).palAt j = s.palAt j := rfl
@[simp] theorem State.palAt_setFrame (s : State) (f : List (List Color)) (j : BitVec 6) :
    (s.setFrame f).palAt j = s.palAt j := rfl
@[simp] theorem State.palAt_respond (s : State) (r : Response) (j : BitVec 6) :
    (s.respond r).palAt j = s.palAt j := rfl
@[simp] theorem State.palAt_setTile (s : State) (p : PlaneId) (t : Byte) (r : BitVec 3) (v : Byte) (j : BitVec 6) :
    (s.setTile p t r v).palAt j = s.palAt j := by simp [State.palAt, State.setTile]
@[simp] theorem State.palAt_setMap (s : State) (l : LayerId) (b : BitVec 10) (v : Byte) (j : BitVec 6) :
    (s.setMap l b v).palAt j = s.palAt j := by simp [State.palAt, State.setMap]
@[simp] theorem State.palAt_setAttr (s : State) (l : LayerId) (b : BitVec 10) (v : Byte) (j : BitVec 6) :
    (s.setAttr l b v).palAt j = s.palAt j := by simp [State.palAt, State.setAttr]
@[simp] theorem State.palAt_setScroll (s : State) (l : LayerId) (v w : Byte) (j : BitVec 6) :
    (s.setScroll l v w).palAt j = s.palAt j := by simp [State.palAt, State.setScroll]
@[simp] theorem State.palAt_setHiddenFlag (s : State) (l : LayerId) (v : Bool) (j : BitVec 6) :
    (s.setHiddenFlag l v).palAt j = s.palAt j := by simp [State.palAt, State.setHiddenFlag]

@[simp] theorem State.tileAt_setPal (s : State) (i : BitVec 6) (c : Color) (q : PlaneId) (u : Byte) (k : BitVec 3) :
    (s.setPal i c).tileAt q u k = s.tileAt q u k := by simp [State.tileAt]
@[simp] theorem State.tileAt_setSprite (s : State) (i : Byte) (e : Sprite) (q : PlaneId) (u : Byte) (k : BitVec 3) :
    (s.setSprite i e).tileAt q u k = s.tileAt q u k := by simp [State.tileAt]
@[simp] theorem State.tileAt_setBgcolor (s : State) (v : BitVec 6) (q : PlaneId) (u : Byte) (k : BitVec 3) :
    (s.setBgcolor v).tileAt q u k = s.tileAt q u k := by simp [State.tileAt]
@[simp] theorem State.tileAt_setHideSpritesFlag (s : State) (v : Bool) (q : PlaneId) (u : Byte) (k : BitVec 3) :
    (s.setHideSpritesFlag v).tileAt q u k = s.tileAt q u k := by simp [State.tileAt]
@[simp] theorem State.tileAt_setFrame (s : State) (f : List (List Color)) (q : PlaneId) (u : Byte) (k : BitVec 3) :
    (s.setFrame f).tileAt q u k = s.tileAt q u k := by simp [State.tileAt]
@[simp] theorem State.tileAt_respond (s : State) (r : Response) (q : PlaneId) (u : Byte) (k : BitVec 3) :
    (s.respond r).tileAt q u k = s.tileAt q u k := by simp [State.tileAt]
@[simp] theorem State.tileAt_setMap (s : State) (l : LayerId) (b : BitVec 10) (v : Byte) (q : PlaneId) (u : Byte) (k : BitVec 3) :
    (s.setMap l b v).tileAt q u k = s.tileAt q u k := by simp [State.tileAt, State.setMap]
@[simp] theorem State.tileAt_setAttr (s : State) (l : LayerId) (b : BitVec 10) (v : Byte) (q : PlaneId) (u : Byte) (k : BitVec 3) :
    (s.setAttr l b v).tileAt q u k = s.tileAt q u k := by simp [State.tileAt, State.setAttr]
@[simp] theorem State.tileAt_setScroll (s : State) (l : LayerId) (v w : Byte) (q : PlaneId) (u : Byte) (k : BitVec 3) :
    (s.setScroll l v w).tileAt q u k = s.tileAt q u k := by simp [State.tileAt, State.setScroll]
@[simp] theorem State.tileAt_setHiddenFlag (s : State) (l : LayerId) (v : Bool) (q : PlaneId) (u : Byte) (k : BitVec 3) :
    (s.setHiddenFlag l v).tileAt q u k = s.tileAt q u k := by simp [State.tileAt, State.setHiddenFlag]

@[simp] theorem State.mapAt_setPal (s : State) (i : BitVec 6) (c : Color) (n : LayerId) (a : BitVec 10) :
    (s.setPal i c).mapAt n a = s.mapAt n a := by simp [State.mapAt]
@[simp] theorem State.mapAt_setSprite (s : State) (i : Byte) (e : Sprite) (n : LayerId) (a : BitVec 10) :
    (s.setSprite i e).mapAt n a = s.mapAt n a := by simp [State.mapAt]
@[simp] theorem State.mapAt_setBgcolor (s : State) (v : BitVec 6) (n : LayerId) (a : BitVec 10) :
    (s.setBgcolor v).mapAt n a = s.mapAt n a := by simp [State.mapAt]
@[simp] theorem State.mapAt_setHideSpritesFlag (s : State) (v : Bool) (n : LayerId) (a : BitVec 10) :
    (s.setHideSpritesFlag v).mapAt n a = s.mapAt n a := by simp [State.mapAt]
@[simp] theorem State.mapAt_setFrame (s : State) (f : List (List Color)) (n : LayerId) (a : BitVec 10) :
    (s.setFrame f).mapAt n a = s.mapAt n a := by simp [State.mapAt]
@[simp] theorem State.mapAt_respond (s : State) (r : Response) (n : LayerId) (a : BitVec 10) :
    (s.respond r).mapAt n a = s.mapAt n a := by simp [State.mapAt]
@[simp] theorem State.mapAt_setTile (s : State) (p : PlaneId) (t : Byte) (r : BitVec 3) (v : Byte) (n : LayerId) (a : BitVec 10) :
    (s.setTile p t r v).mapAt n a = s.mapAt n a := by simp [State.mapAt, State.setTile]
@[simp] theorem State.mapAt_setAttr (s : State) (l : LayerId) (b : BitVec 10) (v : Byte) (n : LayerId) (a : BitVec 10) :
    (s.setAttr l b v).mapAt n a = s.mapAt n a := by
  simp only [State.mapAt, State.setAttr, State.setLayer_layer]
  split <;> simp_all
@[simp] theorem State.mapAt_setScroll (s : State) (l : LayerId) (v w : Byte) (n : LayerId) (a : BitVec 10) :
    (s.setScroll l v w).mapAt n a = s.mapAt n a := by
  simp only [State.mapAt, State.setScroll, State.setLayer_layer]
  split <;> simp_all
@[simp] theorem State.mapAt_setHiddenFlag (s : State) (l : LayerId) (v : Bool) (n : LayerId) (a : BitVec 10) :
    (s.setHiddenFlag l v).mapAt n a = s.mapAt n a := by
  simp only [State.mapAt, State.setHiddenFlag, State.setLayer_layer]
  split <;> simp_all

@[simp] theorem State.attrAt_setPal (s : State) (i : BitVec 6) (c : Color) (n : LayerId) (a : BitVec 10) :
    (s.setPal i c).attrAt n a = s.attrAt n a := by simp [State.attrAt]
@[simp] theorem State.attrAt_setSprite (s : State) (i : Byte) (e : Sprite) (n : LayerId) (a : BitVec 10) :
    (s.setSprite i e).attrAt n a = s.attrAt n a := by simp [State.attrAt]
@[simp] theorem State.attrAt_setBgcolor (s : State) (v : BitVec 6) (n : LayerId) (a : BitVec 10) :
    (s.setBgcolor v).attrAt n a = s.attrAt n a := by simp [State.attrAt]
@[simp] theorem State.attrAt_setHideSpritesFlag (s : State) (v : Bool) (n : LayerId) (a : BitVec 10) :
    (s.setHideSpritesFlag v).attrAt n a = s.attrAt n a := by simp [State.attrAt]
@[simp] theorem State.attrAt_setFrame (s : State) (f : List (List Color)) (n : LayerId) (a : BitVec 10) :
    (s.setFrame f).attrAt n a = s.attrAt n a := by simp [State.attrAt]
@[simp] theorem State.attrAt_respond (s : State) (r : Response) (n : LayerId) (a : BitVec 10) :
    (s.respond r).attrAt n a = s.attrAt n a := by simp [State.attrAt]
@[simp] theorem State.attrAt_setTile (s : State) (p : PlaneId) (t : Byte) (r : BitVec 3) (v : Byte) (n : LayerId) (a : BitVec 10) :
    (s.setTile p t r v).attrAt n a = s.attrAt n a := by simp [State.attrAt, State.setTile]
@[simp] theorem State.attrAt_setMap (s : State) (l : LayerId) (b : BitVec 10) (v : Byte) (n : LayerId) (a : BitVec 10) :
    (s.setMap l b v).attrAt n a = s.attrAt n a := by
  simp only [State.attrAt, State.setMap, State.setLayer_layer]
  split <;> simp_all
@[simp] theorem State.attrAt_setScroll (s : State) (l : LayerId) (v w : Byte) (n : LayerId) (a : BitVec 10) :
    (s.setScroll l v w).attrAt n a = s.attrAt n a := by
  simp only [State.attrAt, State.setScroll, State.setLayer_layer]
  split <;> simp_all
@[simp] theorem State.attrAt_setHiddenFlag (s : State) (l : LayerId) (v : Bool) (n : LayerId) (a : BitVec 10) :
    (s.setHiddenFlag l v).attrAt n a = s.attrAt n a := by
  simp only [State.attrAt, State.setHiddenFlag, State.setLayer_layer]
  split <;> simp_all

@[simp] theorem State.spriteAt_setPal (s : State) (i : BitVec 6) (c : Color) (j : Byte) :
    (s.setPal i c).spriteAt j = s.spriteAt j := rfl
@[simp] theorem State.spriteAt_setBgcolor (s : State) (v : BitVec 6) (j : Byte) :
    (s.setBgcolor v).spriteAt j = s.spriteAt j := rfl
@[simp] theorem State.spriteAt_setHideSpritesFlag (s : State) (v : Bool) (j : Byte) :
    (s.setHideSpritesFlag v).spriteAt j = s.spriteAt j := rfl
@[simp] theorem State.spriteAt_setFrame (s : State) (f : List (List Color)) (j : Byte) :
    (s.setFrame f).spriteAt j = s.spriteAt j := rfl
@[simp] theorem State.spriteAt_respond (s : State) (r : Response) (j : Byte) :
    (s.respond r).spriteAt j = s.spriteAt j := rfl
@[simp] theorem State.spriteAt_setTile (s : State) (p : PlaneId) (t : Byte) (r : BitVec 3) (v : Byte) (j : Byte) :
    (s.setTile p t r v).spriteAt j = s.spriteAt j := by simp [State.spriteAt, State.setTile]
@[simp] theorem State.spriteAt_setMap (s : State) (l : LayerId) (b : BitVec 10) (v : Byte) (j : Byte) :
    (s.setMap l b v).spriteAt j = s.spriteAt j := by simp [State.spriteAt, State.setMap]
@[simp] theorem State.spriteAt_setAttr (s : State) (l : LayerId) (b : BitVec 10) (v : Byte) (j : Byte) :
    (s.setAttr l b v).spriteAt j = s.spriteAt j := by simp [State.spriteAt, State.setAttr]
@[simp] theorem State.spriteAt_setScroll (s : State) (l : LayerId) (v w : Byte) (j : Byte) :
    (s.setScroll l v w).spriteAt j = s.spriteAt j := by simp [State.spriteAt, State.setScroll]
@[simp] theorem State.spriteAt_setHiddenFlag (s : State) (l : LayerId) (v : Bool) (j : Byte) :
    (s.setHiddenFlag l v).spriteAt j = s.spriteAt j := by simp [State.spriteAt, State.setHiddenFlag]

@[simp] theorem State.pixelAt_setPal (s : State) (i : BitVec 6) (c : Color) (x y : Byte) :
    (s.setPal i c).pixelAt x y = s.pixelAt x y := rfl
@[simp] theorem State.pixelAt_setSprite (s : State) (i : Byte) (e : Sprite) (x y : Byte) :
    (s.setSprite i e).pixelAt x y = s.pixelAt x y := rfl
@[simp] theorem State.pixelAt_setBgcolor (s : State) (v : BitVec 6) (x y : Byte) :
    (s.setBgcolor v).pixelAt x y = s.pixelAt x y := rfl
@[simp] theorem State.pixelAt_setHideSpritesFlag (s : State) (v : Bool) (x y : Byte) :
    (s.setHideSpritesFlag v).pixelAt x y = s.pixelAt x y := rfl
@[simp] theorem State.pixelAt_respond (s : State) (r : Response) (x y : Byte) :
    (s.respond r).pixelAt x y = s.pixelAt x y := rfl
@[simp] theorem State.pixelAt_setTile (s : State) (p : PlaneId) (t : Byte) (r : BitVec 3) (v : Byte) (x y : Byte) :
    (s.setTile p t r v).pixelAt x y = s.pixelAt x y := by simp [State.pixelAt, State.setTile]
@[simp] theorem State.pixelAt_setMap (s : State) (l : LayerId) (b : BitVec 10) (v : Byte) (x y : Byte) :
    (s.setMap l b v).pixelAt x y = s.pixelAt x y := by simp [State.pixelAt, State.setMap]
@[simp] theorem State.pixelAt_setAttr (s : State) (l : LayerId) (b : BitVec 10) (v : Byte) (x y : Byte) :
    (s.setAttr l b v).pixelAt x y = s.pixelAt x y := by simp [State.pixelAt, State.setAttr]
@[simp] theorem State.pixelAt_setScroll (s : State) (l : LayerId) (v w : Byte) (x y : Byte) :
    (s.setScroll l v w).pixelAt x y = s.pixelAt x y := by simp [State.pixelAt, State.setScroll]
@[simp] theorem State.pixelAt_setHiddenFlag (s : State) (l : LayerId) (v : Bool) (x y : Byte) :
    (s.setHiddenFlag l v).pixelAt x y = s.pixelAt x y := by simp [State.pixelAt, State.setHiddenFlag]

@[simp] theorem State.hiddenFlag_setPal (s : State) (i : BitVec 6) (c : Color) (n : LayerId) :
    (s.setPal i c).hiddenFlag n = s.hiddenFlag n := by simp [State.hiddenFlag]
@[simp] theorem State.hiddenFlag_setSprite (s : State) (i : Byte) (e : Sprite) (n : LayerId) :
    (s.setSprite i e).hiddenFlag n = s.hiddenFlag n := by simp [State.hiddenFlag]
@[simp] theorem State.hiddenFlag_setBgcolor (s : State) (v : BitVec 6) (n : LayerId) :
    (s.setBgcolor v).hiddenFlag n = s.hiddenFlag n := by simp [State.hiddenFlag]
@[simp] theorem State.hiddenFlag_setHideSpritesFlag (s : State) (v : Bool) (n : LayerId) :
    (s.setHideSpritesFlag v).hiddenFlag n = s.hiddenFlag n := by simp [State.hiddenFlag]
@[simp] theorem State.hiddenFlag_setFrame (s : State) (f : List (List Color)) (n : LayerId) :
    (s.setFrame f).hiddenFlag n = s.hiddenFlag n := by simp [State.hiddenFlag]
@[simp] theorem State.hiddenFlag_respond (s : State) (r : Response) (n : LayerId) :
    (s.respond r).hiddenFlag n = s.hiddenFlag n := by simp [State.hiddenFlag]
@[simp] theorem State.hiddenFlag_setTile (s : State) (p : PlaneId) (t : Byte) (r : BitVec 3) (v : Byte) (n : LayerId) :
    (s.setTile p t r v).hiddenFlag n = s.hiddenFlag n := by simp [State.hiddenFlag, State.setTile]
@[simp] theorem State.hiddenFlag_setMap (s : State) (l : LayerId) (b : BitVec 10) (v : Byte) (n : LayerId) :
    (s.setMap l b v).hiddenFlag n = s.hiddenFlag n := by
  simp only [State.hiddenFlag, State.setMap, State.setLayer_layer]
  split <;> simp_all
@[simp] theorem State.hiddenFlag_setAttr (s : State) (l : LayerId) (b : BitVec 10) (v : Byte) (n : LayerId) :
    (s.setAttr l b v).hiddenFlag n = s.hiddenFlag n := by
  simp only [State.hiddenFlag, State.setAttr, State.setLayer_layer]
  split <;> simp_all
@[simp] theorem State.hiddenFlag_setScroll (s : State) (l : LayerId) (v w : Byte) (n : LayerId) :
    (s.setScroll l v w).hiddenFlag n = s.hiddenFlag n := by
  simp only [State.hiddenFlag, State.setScroll, State.setLayer_layer]
  split <;> simp_all

/-! ### Layers and planes after the named updates -/

@[simp] theorem State.setScroll_layer (s : State) (l k : LayerId) (x y : Byte) :
    (s.setScroll l x y).layer k = if k = l then { s.layer l with scx := x, scy := y } else s.layer k := by
  simp [State.setScroll]

@[simp] theorem State.setHiddenFlag_layer (s : State) (l k : LayerId) (flag : Bool) :
    (s.setHiddenFlag l flag).layer k = if k = l then { s.layer l with hidden := flag } else s.layer k := by
  simp [State.setHiddenFlag]

@[simp] theorem State.setMap_layer (s : State) (l k : LayerId) (a : BitVec 10) (v : Byte) :
    (s.setMap l a v).layer k =
      if k = l then { s.layer l with map := Memory.write resetTileIndex (s.layer l).map a.toNat v } else s.layer k := by
  simp [State.setMap]

@[simp] theorem State.setAttr_layer (s : State) (l k : LayerId) (a : BitVec 10) (v : Byte) :
    (s.setAttr l a v).layer k =
      if k = l then { s.layer l with attr := Memory.write resetAttributes (s.layer l).attr a.toNat v } else s.layer k := by
  simp [State.setAttr]

/-! ### Fields the named plane and layer updates do not touch -/

@[simp] theorem State.setTile_pal (s : State) (p : PlaneId) (t : Byte) (r : BitVec 3) (v : Byte) : (s.setTile p t r v).pal = s.pal := by simp [State.setTile]
@[simp] theorem State.setTile_oam (s : State) (p : PlaneId) (t : Byte) (r : BitVec 3) (v : Byte) : (s.setTile p t r v).oam = s.oam := by simp [State.setTile]
@[simp] theorem State.setTile_bgcolor (s : State) (p : PlaneId) (t : Byte) (r : BitVec 3) (v : Byte) : (s.setTile p t r v).bgcolor = s.bgcolor := by simp [State.setTile]
@[simp] theorem State.setTile_hideSprites (s : State) (p : PlaneId) (t : Byte) (r : BitVec 3) (v : Byte) : (s.setTile p t r v).hideSprites = s.hideSprites := by simp [State.setTile]
@[simp] theorem State.setTile_fb (s : State) (p : PlaneId) (t : Byte) (r : BitVec 3) (v : Byte) : (s.setTile p t r v).fb = s.fb := by simp [State.setTile]
@[simp] theorem State.setTile_commands (s : State) (p : PlaneId) (t : Byte) (r : BitVec 3) (v : Byte) : (s.setTile p t r v).commands = s.commands := by simp [State.setTile]
@[simp] theorem State.setTile_responses (s : State) (p : PlaneId) (t : Byte) (r : BitVec 3) (v : Byte) : (s.setTile p t r v).responses = s.responses := by simp [State.setTile]
@[simp] theorem State.setTile_layer (s : State) (p : PlaneId) (t : Byte) (r : BitVec 3) (v : Byte) (k : LayerId) : (s.setTile p t r v).layer k = s.layer k := by simp [State.setTile]

@[simp] theorem State.setMap_pal (s : State) (l : LayerId) (b : BitVec 10) (v : Byte) : (s.setMap l b v).pal = s.pal := by simp [State.setMap]
@[simp] theorem State.setMap_oam (s : State) (l : LayerId) (b : BitVec 10) (v : Byte) : (s.setMap l b v).oam = s.oam := by simp [State.setMap]
@[simp] theorem State.setMap_bgcolor (s : State) (l : LayerId) (b : BitVec 10) (v : Byte) : (s.setMap l b v).bgcolor = s.bgcolor := by simp [State.setMap]
@[simp] theorem State.setMap_hideSprites (s : State) (l : LayerId) (b : BitVec 10) (v : Byte) : (s.setMap l b v).hideSprites = s.hideSprites := by simp [State.setMap]
@[simp] theorem State.setMap_fb (s : State) (l : LayerId) (b : BitVec 10) (v : Byte) : (s.setMap l b v).fb = s.fb := by simp [State.setMap]
@[simp] theorem State.setMap_commands (s : State) (l : LayerId) (b : BitVec 10) (v : Byte) : (s.setMap l b v).commands = s.commands := by simp [State.setMap]
@[simp] theorem State.setMap_responses (s : State) (l : LayerId) (b : BitVec 10) (v : Byte) : (s.setMap l b v).responses = s.responses := by simp [State.setMap]
@[simp] theorem State.setMap_plane (s : State) (l : LayerId) (b : BitVec 10) (v : Byte) (q : PlaneId) : (s.setMap l b v).plane q = s.plane q := by simp [State.setMap]

@[simp] theorem State.setAttr_pal (s : State) (l : LayerId) (b : BitVec 10) (v : Byte) : (s.setAttr l b v).pal = s.pal := by simp [State.setAttr]
@[simp] theorem State.setAttr_oam (s : State) (l : LayerId) (b : BitVec 10) (v : Byte) : (s.setAttr l b v).oam = s.oam := by simp [State.setAttr]
@[simp] theorem State.setAttr_bgcolor (s : State) (l : LayerId) (b : BitVec 10) (v : Byte) : (s.setAttr l b v).bgcolor = s.bgcolor := by simp [State.setAttr]
@[simp] theorem State.setAttr_hideSprites (s : State) (l : LayerId) (b : BitVec 10) (v : Byte) : (s.setAttr l b v).hideSprites = s.hideSprites := by simp [State.setAttr]
@[simp] theorem State.setAttr_fb (s : State) (l : LayerId) (b : BitVec 10) (v : Byte) : (s.setAttr l b v).fb = s.fb := by simp [State.setAttr]
@[simp] theorem State.setAttr_commands (s : State) (l : LayerId) (b : BitVec 10) (v : Byte) : (s.setAttr l b v).commands = s.commands := by simp [State.setAttr]
@[simp] theorem State.setAttr_responses (s : State) (l : LayerId) (b : BitVec 10) (v : Byte) : (s.setAttr l b v).responses = s.responses := by simp [State.setAttr]
@[simp] theorem State.setAttr_plane (s : State) (l : LayerId) (b : BitVec 10) (v : Byte) (q : PlaneId) : (s.setAttr l b v).plane q = s.plane q := by simp [State.setAttr]

@[simp] theorem State.setScroll_pal (s : State) (l : LayerId) (v w : Byte) : (s.setScroll l v w).pal = s.pal := by simp [State.setScroll]
@[simp] theorem State.setScroll_oam (s : State) (l : LayerId) (v w : Byte) : (s.setScroll l v w).oam = s.oam := by simp [State.setScroll]
@[simp] theorem State.setScroll_bgcolor (s : State) (l : LayerId) (v w : Byte) : (s.setScroll l v w).bgcolor = s.bgcolor := by simp [State.setScroll]
@[simp] theorem State.setScroll_hideSprites (s : State) (l : LayerId) (v w : Byte) : (s.setScroll l v w).hideSprites = s.hideSprites := by simp [State.setScroll]
@[simp] theorem State.setScroll_fb (s : State) (l : LayerId) (v w : Byte) : (s.setScroll l v w).fb = s.fb := by simp [State.setScroll]
@[simp] theorem State.setScroll_commands (s : State) (l : LayerId) (v w : Byte) : (s.setScroll l v w).commands = s.commands := by simp [State.setScroll]
@[simp] theorem State.setScroll_responses (s : State) (l : LayerId) (v w : Byte) : (s.setScroll l v w).responses = s.responses := by simp [State.setScroll]
@[simp] theorem State.setScroll_plane (s : State) (l : LayerId) (v w : Byte) (q : PlaneId) : (s.setScroll l v w).plane q = s.plane q := by simp [State.setScroll]

@[simp] theorem State.setHiddenFlag_pal (s : State) (l : LayerId) (v : Bool) : (s.setHiddenFlag l v).pal = s.pal := by simp [State.setHiddenFlag]
@[simp] theorem State.setHiddenFlag_oam (s : State) (l : LayerId) (v : Bool) : (s.setHiddenFlag l v).oam = s.oam := by simp [State.setHiddenFlag]
@[simp] theorem State.setHiddenFlag_bgcolor (s : State) (l : LayerId) (v : Bool) : (s.setHiddenFlag l v).bgcolor = s.bgcolor := by simp [State.setHiddenFlag]
@[simp] theorem State.setHiddenFlag_hideSprites (s : State) (l : LayerId) (v : Bool) : (s.setHiddenFlag l v).hideSprites = s.hideSprites := by simp [State.setHiddenFlag]
@[simp] theorem State.setHiddenFlag_fb (s : State) (l : LayerId) (v : Bool) : (s.setHiddenFlag l v).fb = s.fb := by simp [State.setHiddenFlag]
@[simp] theorem State.setHiddenFlag_commands (s : State) (l : LayerId) (v : Bool) : (s.setHiddenFlag l v).commands = s.commands := by simp [State.setHiddenFlag]
@[simp] theorem State.setHiddenFlag_responses (s : State) (l : LayerId) (v : Bool) : (s.setHiddenFlag l v).responses = s.responses := by simp [State.setHiddenFlag]
@[simp] theorem State.setHiddenFlag_plane (s : State) (l : LayerId) (v : Bool) (q : PlaneId) : (s.setHiddenFlag l v).plane q = s.plane q := by simp [State.setHiddenFlag]

/-! ### What `performIf` and the port answer -/

/-- A command answers a next state: its effect when legal, the refusal otherwise. -/
theorem performIf_next {legal : Bool} {t s u : State} (h : performIf legal t s = .next u) :
    (legal = true ∧ u = t) ∨ (legal = false ∧ u = s.reject) := by
  cases legal
  · right
    injection h with h
    exact ⟨rfl, h.symm⟩
  · left
    injection h with h
    exact ⟨rfl, h.symm⟩

theorem performIf_true (t s : State) : performIf true t s = .next t := rfl

theorem performIf_false (t s : State) : performIf false t s = .next s.reject := rfl

/-- The port gives its first word, and the state that is left differs in nothing else. -/
theorem State.takeCommand_cons {s : State} {w : CmdWord} {rest : List CmdWord} (h : s.commands = w :: rest) :
    s.takeCommand = some (w, { s with commands := rest }) := by
  simp [State.takeCommand, h]

theorem State.takeCommand_nil {s : State} (h : s.commands = []) : s.takeCommand = none := by
  simp [State.takeCommand, h]

end Sys2Proof.Machine
end

