-- ==== Sys2Proof/Laws/Rendering.lean ====
section
/-! SUPPORT. What the functions a render runs can answer, said once each: the OAM indices, the hit of a raw pixel, the
arbiter at one level and over the levels, a pixel of a rendered frame. -/

namespace Sys2Proof.Machine

open Sys2Proof

/-! ### Sprites -/

theorem mem_oamIndices (i : Byte) : i ∈ oamIndices := by
  simp only [oamIndices, List.mem_map, List.mem_range]
  exact ⟨i.toNat, i.isLt, by simp⟩

theorem oamIndices_ascending : oamIndices.Pairwise (fun i j => i.toNat < j.toNat) := by decide +kernel

/-- A sprite is gathered exactly when its vertical box contains the scanline. -/
theorem mem_gather (s : State) (line i : Byte) : i ∈ s.gather line ↔ inBox line (s.spriteAt i).y = true := by
  simp [State.gather, mem_oamIndices]

/-- The box test in exact arithmetic. -/
theorem inBox_iff (c c0 : Byte) : inBox c c0 = true ↔ (c.toNat + 256 - c0.toNat) % 256 < 8 := by
  have := c.isLt
  have := c0.isLt
  simp only [inBox, decide_eq_true_eq, BitVec.lt_def, sub8, BitVec.toNat_sub, BitVec.toNat_ofNat]
  omega

/-! ### Hits -/

/-- A raw pixel hits exactly when it is not 0, with the index and priority its attribute byte gives. -/
theorem colorize_eq_some (a : Byte) (raw : BitVec 3) (h : Hit) :
    colorize a raw = some h ↔ raw ≠ 0#3 ∧ h = { color := hitIndex (attrSub a) raw, prio := attrPrio a } := by
  unfold colorize
  split
  · next e => simp [e]
  · next e => simp [e, eq_comm]

theorem colorize_eq_none (a : Byte) (raw : BitVec 3) : colorize a raw = none ↔ raw = 0#3 := by
  unfold colorize
  split
  · next e => simp [e]
  · next e => simp [e]

/-! ### The arbiter -/

theorem hitAtLevel_eq_none (level : BitVec 2) (o : Option Hit) :
    hitAtLevel level o = none ↔ ∀ h, o = some h → h.prio ≠ level := by
  cases o <;> simp [hitAtLevel]

/-- Nothing wins at a level exactly when neither the sprite hit nor a layer hit has that priority. -/
theorem winnerAtLevel_eq_none (sh : Option Hit) (hits : List (Option Hit)) (level : BitVec 2) :
    winnerAtLevel sh hits level = none ↔
      (∀ h, sh = some h → h.prio ≠ level) ∧ ∀ b, some b ∈ hits → b.prio ≠ level := by
  unfold winnerAtLevel
  cases e : hitAtLevel level sh with
  | some c =>
    have : ¬ ∀ h, sh = some h → h.prio ≠ level := by
      rw [← hitAtLevel_eq_none, e]
      simp
    simp only [reduceCtorEq, false_iff, not_and]
    exact fun h => absurd h this
  | none =>
    have e' := (hitAtLevel_eq_none level sh).mp e
    simp only [List.findSome?_eq_none_iff, layerOrder, List.mem_reverse, hitAtLevel_eq_none]
    constructor
    · exact fun k => ⟨e', fun b hb => k _ hb b rfl⟩
    · rintro ⟨-, k⟩ o ho b rfl
      exact k b ho

/-- The arbiter answers the winner of the highest level that has one. -/
theorem getTopPixel_of_winner (s : State) (sh : Option Hit) (hits : List (Option Hit)) (level : BitVec 2) (c : Byte)
    (h : winnerAtLevel (s.visibleSprite sh) hits level = some c)
    (above : ∀ m : BitVec 2, level.toNat < m.toNat → winnerAtLevel (s.visibleSprite sh) hits m = none) :
    s.getTopPixel sh hits = c := by
  have four : ∀ v : BitVec 2, v = 0#2 ∨ v = 1#2 ∨ v = 2#2 ∨ v = 3#2 := by decide
  unfold State.getTopPixel priorityLevels
  rcases four level with rfl | rfl | rfl | rfl
  · simp [List.findSome?, h, above 3#2 (by decide), above 2#2 (by decide), above 1#2 (by decide)]
  · simp [List.findSome?, h, above 3#2 (by decide), above 2#2 (by decide)]
  · simp [List.findSome?, h, above 3#2 (by decide)]
  · simp [List.findSome?, h]

/-- The arbiter answers a winner of some level, or `BGCOLOR`. -/
theorem getTopPixel_cases (s : State) (sh : Option Hit) (hits : List (Option Hit)) :
    (∃ level, winnerAtLevel (s.visibleSprite sh) hits level = some (s.getTopPixel sh hits)) ∨
      s.getTopPixel sh hits = s.bgcolor.setWidth 8 := by
  unfold State.getTopPixel
  split
  · next c hc =>
    obtain ⟨level, -, h⟩ := List.exists_of_findSome?_eq_some hc
    exact .inl ⟨level, h⟩
  · exact .inr rfl

/-! ### The frame -/

theorem renderedFrame_length (s : State) : s.renderedFrame.length = Config.screenHeight := by
  simp [State.renderedFrame]

theorem renderLine_length (s : State) (y : Byte) : (s.renderLine y).length = Config.screenWidth := by
  simp [State.renderLine]

/-- A pixel of the framebuffer once the rendered frame is in it. -/
theorem pixelAt_setFrame_renderedFrame (s : State) (x y : Byte) (h : onScreen x y = true) :
    (s.setFrame s.renderedFrame).pixelAt x y = s.colorOf (s.topIndex (s.gather y) x y) := by
  simp only [onScreen, Bool.and_eq_true, decide_eq_true_eq] at h
  obtain ⟨hx, hy⟩ := h
  have row : s.renderedFrame[y.toNat]? = some (s.renderLine y) := by
    simp [State.renderedFrame, List.getElem?_map, List.getElem?_range hy]
  have pixel : (s.renderLine y)[x.toNat]? = some (s.colorOf (s.topIndex (s.gather y) x y)) := by
    simp [State.renderLine, List.getElem?_map, List.getElem?_range hx]
  simp [State.pixelAt, State.setFrame, row, pixel]

end Sys2Proof.Machine
end

