-- ==== Sys2Proof/Tests/Slice0.lean ====
section
/-! SUPPORT. Tests and witnesses. Every expected value is written in spec/95_test_vectors.md or in the rule's worked
example (cited before each group). A theorem named `witness_<Statement>...` shows operands and a state that meet the
hypotheses of the obligation of that name. -/

namespace Sys2Proof.Machine.Tests

open Sys2Proof Sys2Proof.Machine

/-! ### Small states -/

/-- The state an instruction leads to; the state itself if it stopped. -/
def after (i : Instr) (s : State) : State :=
  match exec i s with
  | .next t => t
  | _ => s

/-- The state one step leads to. -/
def afterStep (s : State) : State :=
  match step s with
  | .next t => t
  | _ => s

/-- 95_test_vectors.md, tile A, as tile 1: plane bytes of rows 0, 1, 5 and 7. -/
def withTileA : State :=
  { State.reset with
    tile0 := [(8, 0x02#8), (9, 0x01#8), (13, 0x08#8), (15, 0x80#8)]
    tile1 := [(8, 0x80#8), (9, 0x01#8), (13, 0x08#8), (15, 0x01#8)]
    tile2 := [(8, 0x03#8), (13, 0x08#8), (15, 0x01#8)] }

/-- The set-up of vectors D1, layer 0, scrolled. -/
def layerD (scx scy : Byte) : State :=
  { withTileA with
    bg0 :=
      { map := [(0, 1#8), (31, 1#8), (34, 1#8), (1023, 1#8)]
        attr := [(31, 0x20#8), (34, 0xD5#8), (1023, 0x59#8)]
        scx := scx, scy := scy, hidden := false } }

/-- Vectors E3: tile A is tile 1, tile 2 is solid raw 1, three sprites, all others hidden by an empty picture. -/
def spritesE : State :=
  { withTileA with
    tile2 := [(8, 0x03#8), (13, 0x08#8), (15, 0x01#8), (16, 0xFF#8), (17, 0xFF#8), (18, 0xFF#8), (19, 0xFF#8),
      (20, 0xFF#8), (21, 0xFF#8), (22, 0xFF#8), (23, 0xFF#8)]
    oam := [(0, { x := 10#8, y := 20#8, tile := 1#8, attr := 0x03#8 }),
      (1, { x := 10#8, y := 20#8, tile := 2#8, attr := 0xC4#8 }),
      (2, { x := 12#8, y := 22#8, tile := 2#8, attr := 0x85#8 })] }

/-- The state of scenario V2: V1 and a sprite of priority 3 in subpalette 1. -/
def scenarioV2 : State :=
  { State.reset with
    pal := [(1, { r := 255#8, g := 0#8, b := 0#8 }), (8, { r := 0#8, g := 0#8, b := 255#8 }),
      (9, { r := 0#8, g := 255#8, b := 0#8 })]
    tile2 := [(8, 0x01#8)]
    bg0 := { map := [(0, 1#8)], attr := [(0, 0x40#8)], scx := 0#8, scy := 0#8, hidden := false }
    oam := [(0, { x := 0#8, y := 0#8, tile := 1#8, attr := 0xC1#8 })] }

/-- A hit, as vectors F1 write it: palette index and priority. -/
def hit (c : Byte) (p : BitVec 2) : Option Hit := some { color := c, prio := p }

/-- `BGCOLOR = 63`, as in vectors F1, with the given hide-all flag. -/
def arbiterF (hide : Bool) : State := { State.reset with bgcolor := 63#6, hideSprites := hide }

/-! ### Well-formedness: an ill-formed term for each check -/

theorem test_wellFormed_absent_layer_pokeTile (h : Config.layerCount = .two) :
    (Instr.pokeTile .bg2 0#5 0#5 1#8).wellFormed = false := by
  simp [Instr.wellFormed, LayerId.present, Config.hasThirdLayer, h]

theorem test_wellFormed_absent_layer_pokeAttr (h : Config.layerCount = .two) :
    (Instr.pokeAttr .bg2 0#5 0#5 1#8).wellFormed = false := by
  simp [Instr.wellFormed, LayerId.present, Config.hasThirdLayer, h]

theorem test_wellFormed_absent_layer_setScroll (h : Config.layerCount = .two) :
    (Instr.setScroll .bg2 0#8 0#8).wellFormed = false := by
  simp [Instr.wellFormed, LayerId.present, Config.hasThirdLayer, h]

theorem test_wellFormed_absent_layer_setHidden (h : Config.layerCount = .two) :
    (Instr.setHidden .bg2 true).wellFormed = false := by
  simp [Instr.wellFormed, LayerId.present, Config.hasThirdLayer, h]

theorem test_wellFormed_absent_layer_peekTile (h : Config.layerCount = .two) :
    (Instr.peekTile .bg2 0#5 0#5).wellFormed = false := by
  simp [Instr.wellFormed, LayerId.present, Config.hasThirdLayer, h]

theorem test_wellFormed_absent_layer_peekAttr (h : Config.layerCount = .two) :
    (Instr.peekAttr .bg2 0#5 0#5).wellFormed = false := by
  simp [Instr.wellFormed, LayerId.present, Config.hasThirdLayer, h]

theorem test_wellFormed_present_third_layer (h : Config.layerCount = .three) :
    (Instr.pokeTile .bg2 0#5 0#5 1#8).wellFormed = true := by
  simp [Instr.wellFormed, LayerId.present, Config.hasThirdLayer, h]

theorem test_wellFormed_readPixel_x : (Instr.readPixel 192#8 0#8).wellFormed = false := by decide

theorem test_wellFormed_readPixel_y : (Instr.readPixel 0#8 160#8).wellFormed = false := by decide

theorem test_wellFormed_readPixelArgb_x : (Instr.readPixelArgb 192#8 159#8).wellFormed = false := by decide

theorem test_wellFormed_readPixelArgb_y : (Instr.readPixelArgb 191#8 160#8).wellFormed = false := by decide

theorem test_wellFormed_last_pixel : (Instr.readPixel 191#8 159#8).wellFormed = true := by decide

/-! ### Decoding: one word for each command, written out bit by bit from R97 and R98, values from R212 to R226 -/

theorem test_decode_pokeTile :  -- op, mbz 39:20, layer 19:18, ty 17:13, tx 12:8, data 7:0
    decode 0b00000001_00000000000000000000_01_00010_11111_01111111#48 = some (.pokeTile .bg1 31#5 2#5 0x7F#8) := by
  decide

theorem test_decode_pokeAttr :
    decode 0b00000010_00000000000000000000_00_01001_00101_11010101#48 = some (.pokeAttr .bg0 5#5 9#5 0xD5#8) := by
  decide

theorem test_decode_setScroll :  -- op, mbz 39:18, layer 17:16, x 15:8, y 7:0
    decode 0b00000011_0000000000000000000000_00_11111111_00000000#48 = some (.setScroll .bg0 255#8 0#8) := by
  decide

theorem test_decode_setHidden :  -- op, mbz 39:10, layer 9:8, mbz 7:1, flag 0
    decode 0b00000100_000000000000000000000000000000_01_0000000_1#48 = some (.setHidden .bg1 true) := by
  decide

theorem test_decode_setSprite :  -- op, idx 39:32, x 31:24, y 23:16, tile 15:8, attr 7:0
    decode 0b00000101_00000011_10111100_10011100_00000100_10000110#48 =
      some (.setSprite 3#8 188#8 156#8 4#8 0x86#8) := by
  decide

theorem test_decode_hideSprite :  -- op, idx 39:32, mbz 31:0
    decode 0b00000110_00000111_00000000000000000000000000000000#48 = some (.hideSprite 7#8) := by
  decide

theorem test_decode_setPalette :  -- op, mbz 39:30, pidx 29:24, r 23:16, g 15:8, b 7:0
    decode 0b00000111_0000000000_111111_00000001_00000010_00000011#48 = some (.setPalette 63#6 1#8 2#8 3#8) := by
  decide

theorem test_decode_setTileRow :  -- op, mbz 39:21, plane 20:19, tile 18:11, row 10:8, data 7:0
    decode 0b00001000_0000000000000000000_01_00000011_101_00001000#48 = some (.setTileRow .plane1 3#8 5#3 0x08#8) := by
  decide

theorem test_decode_setBgcolor :  -- op, mbz 39:6, pidx 5:0
    decode 0b00001001_0000000000000000000000000000000000_111111#48 = some (.setBgcolor 63#6) := by
  decide

theorem test_decode_setHideSprites :  -- op, mbz 39:1, flag 0
    decode 0b00001010_000000000000000000000000000000000000000_1#48 = some (.setHideSprites true) := by
  decide

theorem test_decode_peekTile :  -- op, mbz 39:20, layer 19:18, ty 17:13, tx 12:8, mbz 7:0
    decode 0b00010000_00000000000000000000_01_11111_11111_00000000#48 = some (.peekTile .bg1 31#5 31#5) := by
  decide

theorem test_decode_peekAttr :
    decode 0b00010001_00000000000000000000_00_11111_00001_00000000#48 = some (.peekAttr .bg0 1#5 31#5) := by
  decide

theorem test_decode_readPixel :  -- op, mbz 39:16, x 15:8, y 7:0
    decode 0b00010010_000000000000000000000000_10111111_10011111#48 = some (.readPixel 191#8 159#8) := by
  decide

theorem test_decode_readPixelArgb :
    decode 0b00010011_000000000000000000000000_00000011_00000010#48 = some (.readPixelArgb 3#8 2#8) := by
  decide

theorem test_decode_renderFrame :
    decode 0b00100000_0000000000000000000000000000000000000000#48 = some .renderFrame := by
  decide

/-- Layer 2 decodes exactly when the PPU has it: program P4, word `0x010000080001`. -/
theorem test_decode_layer_two :
    decode 0x010000080001#48 =
      match Config.layerCount with
      | .two => none
      | .three => some (.pokeTile .bg2 0#5 0#5 1#8) := by
  have operands : decodeOperands 0x010000080001#48 = some (.pokeTile .bg2 0#5 0#5 1#8) := by decide
  cases h : Config.layerCount <;>
    simp [decode, operands, Instr.wellFormed, LayerId.present, Config.hasThirdLayer, h]

/-- The reserved words of program P4 that are reserved whatever `NUM_LAYERS` is. -/
theorem test_decode_reserved :
    [0xFF0000000000#48, 0x000000000000#48, 0x200000000001#48, 0x0100000C0001#48, 0x100000000005#48,
      0x0800001800FF#48, 0x070040010101#48, 0x12000000C000#48, 0x1200000000A0#48, 0x040000000003#48,
      0x09000000007F#48].map decode = List.replicate 11 none := by
  decide

theorem test_encode : encode (.pokeTile .bg1 31#5 2#5 0x7F#8) = 0x010000045F7F#48 ∧
    encode (.setSprite 0#8 0#8 0#8 2#8 0xC1#8) = 0x0500000002C1#48 ∧
    encode (.setTileRow .plane2 1#8 0#3 0x01#8) = 0x080000100801#48 := by decide

theorem test_decodeTableWord : decodeTableWord 48 0x12000000BF9F = some (.readPixel 191#8 159#8) := by decide

theorem test_commandText : commandText (.setSprite 0#8 0#8 0#8 2#8 0xC1#8) = "SET_SPRITE 0, 0, 0, 2, 193" := by
  decide +kernel

/-! ### Each command, one step (worked examples of R212 to R226) -/

theorem test_pokeTile :
    (after (.pokeTile .bg1 31#5 2#5 0x7F#8) State.reset).bg1.map = [(95, 0x7F#8)] := by decide

theorem test_pokeTile_same_value : (after (.pokeTile .bg0 0#5 0#5 0#8) (layerD 0#8 0#8)).bg0.map =
    [(31, 1#8), (34, 1#8), (1023, 1#8)] := by decide

theorem test_pokeAttr : (after (.pokeAttr .bg0 0#5 0#5 0x40#8) State.reset).bg0.attr = [(0, 0x40#8)] ∧
    (after (.pokeAttr .bg0 0#5 0#5 0x40#8) State.reset).bg0.map = [] := by decide

theorem test_setScroll : (after (.setScroll .bg0 255#8 0#8) State.reset).bg0.scx = 255#8 ∧
    (after (.setScroll .bg0 255#8 0#8) State.reset).bg0.scy = 0#8 := by decide

theorem test_setHidden : (after (.setHidden .bg1 true) State.reset).bg1.hidden = true ∧
    (after (.setHidden .bg1 true) State.reset).bg0.hidden = false := by decide

theorem test_setSprite : (after (.setSprite 0#8 0#8 0#8 2#8 0xC1#8) State.reset).spriteAt 0#8 =
    { x := 0#8, y := 0#8, tile := 2#8, attr := 0xC1#8 } := by decide

/-- Program P3: sprite 0 hidden, its other fields kept. -/
theorem test_hideSprite : (after (.hideSprite 0#8) spritesE).spriteAt 0#8 =
    { x := 10#8, y := 160#8, tile := 1#8, attr := 0x03#8 } := by decide

theorem test_setPalette : (after (.setPalette 8#6 0#8 255#8 0#8) State.reset).palAt 8#6 =
    { r := 0#8, g := 255#8, b := 0#8 } := by decide

theorem test_setTileRow : (after (.setTileRow .plane2 1#8 0#3 0x01#8) State.reset).storedPixel 1#8 0#3 0#3 = 1#3 := by
  decide

theorem test_setBgcolor : (after (.setBgcolor 63#6) State.reset).bgcolor = 63#6 := by decide

theorem test_setHideSprites : (after (.setHideSprites true) State.reset).hideSprites = true := by decide

theorem test_peekTile : (after (.peekTile .bg0 31#5 31#5) (layerD 0#8 0#8)).responses = [.okValue 1#32] := by decide

theorem test_peekAttr : (after (.peekAttr .bg0 31#5 31#5) (layerD 0#8 0#8)).responses = [.okValue 0x59#32] := by decide

/-- R224, R225: the framebuffer's pixel (1, 0) is (255, 0, 0), (0, 0) is (0x12, 0x34, 0x56). -/
theorem test_readPixel : (after (.readPixel 1#8 0#8)
    { State.reset with fb := [[{ r := 0x12#8, g := 0x34#8, b := 0x56#8 }, { r := 255#8, g := 0#8, b := 0#8 }]] }).responses
      = [.okValue 0x00FF0000#32] := by decide

theorem test_readPixelArgb : (after (.readPixelArgb 0#8 0#8)
    { State.reset with fb := [[{ r := 0x12#8, g := 0x34#8, b := 0x56#8 }]] }).responses = [.okValue 0xFF123456#32] := by
  decide

/-- Scenario V1 without its sprite, and V2: pixels (0, 0) and (8, 8). -/
theorem test_renderFrame_V1 :
    (after .renderFrame { scenarioV2 with oam := [] }).pixelAt 0#8 0#8 = { r := 255#8, g := 0#8, b := 0#8 } ∧
    (after .renderFrame { scenarioV2 with oam := [] }).pixelAt 8#8 8#8 = { r := 0#8, g := 0#8, b := 0#8 } := by
  decide +kernel

theorem test_renderFrame_V2 :
    (after .renderFrame scenarioV2).pixelAt 0#8 0#8 = { r := 0#8, g := 255#8, b := 0#8 } ∧
    (after .renderFrame scenarioV2).pixelAt 1#8 0#8 = { r := 0#8, g := 0#8, b := 0#8 } := by
  decide +kernel

/-- A step takes the word presented, whatever is pending behind it, and answers a reserved word with `REJECT`. -/
theorem test_step : afterStep (State.reset.withFetchWord 48 0x09000000003F) =
      { State.reset with bgcolor := 63#6, responses := [.ok] } ∧
    afterStep (State.reset.withFetchWord 48 0x200000000001) = { State.reset with responses := [.reject] } := by
  decide

/-! ### Arithmetic and fields (vectors A, B) -/

theorem test_sub8 : sub8 0#8 255#8 = 1#8 ∧ sub8 0#8 1#8 = 255#8 ∧ sub8 3#8 200#8 = 59#8 ∧ sub8 0#8 249#8 = 7#8 := by
  decide

theorem test_cellAddr : cellAddr 31#5 0#5 = 31#10 ∧ cellAddr 0#5 1#5 = 32#10 ∧ cellAddr 16#5 16#5 = 528#10 ∧
    cellAddr 31#5 31#5 = 1023#10 := by decide

theorem test_attributes : attrPrio 0x59#8 = 1#2 ∧ attrFlipY 0x59#8 = false ∧ attrFlipX 0x59#8 = true ∧
    attrFlipDiag 0x59#8 = true ∧ attrSub 0x59#8 = 1#3 ∧ attrFlipY 0x20#8 = true ∧ attrPrio 0x86#8 = 2#2 := by decide

theorem test_hitIndex : hitIndex 5#3 2#3 = 42#8 ∧ hitIndex 7#3 7#3 = 63#8 := by decide

/-! ### Tile decoder (vectors C1) -/

theorem test_getRawPixel_planes : withTileA.getRawPixel 1#8 0x00#8 1#8 0#8 = 5#3 ∧
    withTileA.getRawPixel 1#8 0x00#8 7#8 0#8 = 2#3 ∧ withTileA.getRawPixel 1#8 0x00#8 0#8 1#8 = 6#3 ∧
    withTileA.getRawPixel 1#8 0x00#8 255#8 255#8 = 4#3 := by decide

theorem test_getRawPixel_flips : withTileA.getRawPixel 1#8 0x18#8 0#8 0#8 = 3#3 ∧
    withTileA.getRawPixel 1#8 0x28#8 0#8 0#8 = 2#3 ∧ withTileA.getRawPixel 1#8 0x38#8 4#8 2#8 = 0#3 ∧
    withTileA.getRawPixel 1#8 0x10#8 8#8 0#8 = 2#3 := by decide

/-! ### Background layers (vectors D1, D2) -/

theorem test_layerHit_scroll : (layerD 4#8 3#8).layerHit .bg0 4#8 3#8 = hit 1#8 0#2 ∧
    (layerD 4#8 3#8).layerHit .bg0 3#8 2#8 = hit 10#8 1#2 ∧ (layerD 255#8 0#8).layerHit .bg0 7#8 0#8 = none ∧
    (layerD 10#8 250#8).layerHit .bg0 26#8 2#8 = hit 42#8 3#2 := by decide

theorem test_layerHit_hidden :
    (after (.setHidden .bg0 true) (layerD 0#8 0#8)).layerHit .bg0 0#8 0#8 = none := by decide

/-! ### Sprites (vectors E1, E3, E5) -/

theorem test_gather : ((State.reset.setSprite 3#8 { resetSprite with y := 249#8 }).gather 1#8).contains 3#8 = false ∧
    ((State.reset.setSprite 3#8 { resetSprite with y := 250#8 }).gather 1#8).contains 3#8 = true := by decide +kernel

theorem test_spriteHit : spritesE.spriteHit (spritesE.gather 20#8) 10#8 20#8 = hit 25#8 0#2 ∧
    spritesE.spriteHit (spritesE.gather 20#8) 12#8 20#8 = hit 33#8 3#2 ∧
    spritesE.spriteHit (spritesE.gather 22#8) 19#8 22#8 = hit 41#8 2#2 ∧
    spritesE.spriteHit (spritesE.gather 30#8) 12#8 30#8 = none := by decide +kernel

theorem test_spriteHit_wrap :
    (withTileA.setSprite 0#8 { x := 252#8, y := 250#8, tile := 1#8, attr := 0x40#8 }).spriteHit [0#8] 3#8 1#8 =
      hit 4#8 1#2 ∧
    (withTileA.setSprite 0#8 { x := 252#8, y := 250#8, tile := 1#8, attr := 0x40#8 }).spriteHit [0#8] 4#8 1#8 = none := by
  decide

/-! ### Arbiter and colours (vectors F1, R186) -/

theorem test_getTopPixel : (arbiterF false).getTopPixel none [none, none] = 63#8 ∧
    (arbiterF false).getTopPixel (hit 9#8 1#2) [hit 1#8 2#2, none] = 1#8 ∧
    (arbiterF false).getTopPixel (hit 9#8 1#2) [hit 1#8 1#2, none] = 9#8 ∧
    (arbiterF false).getTopPixel (hit 9#8 0#2) [none, hit 17#8 1#2] = 17#8 ∧
    (arbiterF false).getTopPixel none [hit 1#8 1#2, hit 17#8 1#2] = 17#8 ∧
    (arbiterF false).getTopPixel none [hit 1#8 2#2, hit 17#8 1#2] = 1#8 := by decide

theorem test_getTopPixel_hidden : (arbiterF true).getTopPixel (hit 9#8 3#2) [hit 1#8 3#2, hit 17#8 3#2] = 17#8 ∧
    (arbiterF true).getTopPixel (hit 9#8 3#2) [none, none] = 63#8 := by decide

theorem test_toArgb : toArgb { r := 0x12#8, g := 0x34#8, b := 0x56#8 } = 0xFF123456#32 := by decide

/-! ### Witnesses: operands and states that meet the hypotheses of the obligations -/

/-- The last pixel of the screen, a cell of layer 1 at the last coordinates. -/
theorem witness_EncodedCommandDecodesBack : (Instr.readPixelArgb 191#8 159#8).wellFormed = true ∧
    (Instr.pokeAttr .bg1 31#5 31#5 255#8).wellFormed = true := by decide

theorem witness_DecodedWordIsItsEncoding : decode 0x13000000BF9F#48 = some (.readPixelArgb 191#8 159#8) := by decide

theorem witness_StepRunsTheDecodedCommand :
    (State.reset.withFetchWord 48 0x0A0000000001).commands = 0x0A0000000001#48 :: [] ∧
    decode 0x0A0000000001#48 = some (.setHideSprites true) := by decide

theorem witness_IdlePortHoldsTheState : State.reset.commands = [] := by decide

theorem witness_ReservedWordIsRefused_opcode :
    (State.reset.withFetchWord 48 0x210000000000).commands = 0x210000000000#48 :: [] ∧
      ReservedWord 0x210000000000#48 := by
  exact ⟨by decide, .inl (by decide)⟩

theorem witness_ReservedWordIsRefused_mustBeZero :
    (State.reset.withFetchWord 48 0x200000000001).commands = 0x200000000001#48 :: [] ∧
      ReservedWord 0x200000000001#48 := by
  exact ⟨by decide, .inr (.inl (by decide))⟩

theorem witness_ReservedWordIsRefused_layer :
    (State.reset.withFetchWord 48 0x0100000C0001).commands = 0x0100000C0001#48 :: [] ∧
      ReservedWord 0x0100000C0001#48 := by
  refine ⟨by decide, .inr (.inr (.inl ⟨3#2, by decide, ?_⟩))⟩
  rcases numLayers_cases with h | h <;> rw [h] <;> decide

theorem witness_ReservedWordIsRefused_layer_two (h : Config.layerCount = .two) :
    (State.reset.withFetchWord 48 0x010000080001).commands = 0x010000080001#48 :: [] ∧
      ReservedWord 0x010000080001#48 := by
  refine ⟨by decide, .inr (.inr (.inl ⟨2#2, by decide, ?_⟩))⟩
  simp [Config.numLayers, h]

theorem witness_ReservedWordIsRefused_plane :
    (State.reset.withFetchWord 48 0x0800001800FF).commands = 0x0800001800FF#48 :: [] ∧
      ReservedWord 0x0800001800FF#48 := by
  exact ⟨by decide, .inr (.inr (.inr (.inl (by decide))))⟩

theorem witness_ReservedWordIsRefused_pixel :
    (State.reset.withFetchWord 48 0x1300000000A0).commands = 0x1300000000A0#48 :: [] ∧
      ReservedWord 0x1300000000A0#48 ∧ ReservedWord 0x12000000C000#48 := by
  exact ⟨by decide, .inr (.inr (.inr (.inr (by decide)))), .inr (.inr (.inr (.inr (by decide))))⟩

theorem witness_IllegalOperandsAreRefused : (Instr.readPixel 192#8 0#8).wellFormed = false ∧
    (Instr.readPixel 0#8 160#8).wellFormed = false := by decide

theorem witness_EachCommandHasOneResponse :
    (State.reset.withFetchWord 48 0x200000000001).commands = 0x200000000001#48 :: [] ∧
    decode 0x200000000001#48 = none ∧
    (State.reset.withFetchWord 48 0x100000000000).commands = 0x100000000000#48 :: [] ∧
    decode 0x100000000000#48 = some (.peekTile .bg0 0#5 0#5) ∧ isReadCommand (.peekTile .bg0 0#5 0#5) = true ∧
    (State.reset.withFetchWord 48 0x060700000000).commands = 0x060700000000#48 :: [] ∧
    decode 0x060700000000#48 = some (.hideSprite 7#8) ∧ isReadCommand (.hideSprite 7#8) = false := by decide

theorem witness_EveryLegalCommandIsPerformed : (Instr.pokeTile .bg1 31#5 31#5 255#8).wellFormed = true ∧
    (Instr.readPixel 191#8 159#8).wellFormed = true := by decide

theorem witness_presentLayer : LayerId.present .bg0 = true ∧ LayerId.present .bg1 = true := by decide

theorem witness_thirdLayer (h : Config.layerCount = .three) : LayerId.present .bg2 = true := by
  simp [LayerId.present, Config.hasThirdLayer, h]

/-- Words of each opcode whose refusal a command's statement lists: a must-be-zero bit set, layer 3, and a legal one. -/
theorem witness_refusedWords :
    [0x010000100000#48, 0x0100000C0000#48, 0x01000007FFFF#48].map opcodeField = List.replicate 3 0x01#8 ∧
    [0x028000000000#48, 0x0200000C0000#48, 0x02000007FFFF#48].map opcodeField = List.replicate 3 0x02#8 ∧
    [0x030000040000#48, 0x030000030000#48, 0x03000001FFFF#48].map opcodeField = List.replicate 3 0x03#8 ∧
    [0x040000000002#48, 0x040000000400#48, 0x040000000300#48].map opcodeField = List.replicate 3 0x04#8 ∧
    [0x070040000000#48, 0x07003FFFFFFF#48].map opcodeField = List.replicate 2 0x07#8 ∧
    [0x100000000001#48, 0x100000100000#48, 0x1000000C0000#48].map opcodeField = List.replicate 3 0x10#8 ∧
    [0x110000000080#48, 0x118000000000#48, 0x11000007FF00#48].map opcodeField = List.replicate 3 0x11#8 ∧
    [0x208000000000#48, 0x200000000000#48].map opcodeField = List.replicate 2 0x20#8 := by decide

theorem witness_SetScrollWritesBothOffsets :
    exec (.setScroll .bg1 1#8 2#8) State.reset = .next (after (.setScroll .bg1 1#8 2#8) State.reset) ∧
      ∀ x y, Instr.setScroll .bg1 1#8 2#8 ≠ .setScroll .bg0 x y := ⟨rfl, by simp⟩

/-- Another cell of the map than the one written. -/
theorem witness_PokeTileWritesTheTileIndex : cellAddr 30#5 31#5 ≠ cellAddr 31#5 31#5 := by decide

/-- A layer that hits until it is hidden. -/
theorem witness_SetHiddenWritesTheLayerFlag : (layerD 0#8 0#8).layerHit .bg0 0#8 0#8 ≠ none := by decide

theorem witness_SetSpriteWritesTheWholeEntry : (160#8 : Byte).toNat = Config.screenHeight ∧
    (159#8 : Byte).toNat < Config.screenHeight ∧ opcodeField 0x05FFFFFFFFFF#48 = 0x05#8 := by decide

theorem witness_HideSpriteMovesTheSpriteOffScreen : (159#8 : Byte).toNat < Config.screenHeight ∧
    (0#8 : Byte).toNat < Config.screenHeight := by decide

theorem witness_SetTileRowWritesOneRowByte : ¬((254#8 : Byte) = 255#8 ∧ (7#3 : BitVec 3) = 7#3) := by decide

theorem witness_PeekTileReadsTheTileIndex : LayerId.present .bg1 = true ∧
    exec (.pokeTile .bg1 31#5 31#5 255#8) State.reset =
      .next (after (.pokeTile .bg1 31#5 31#5 255#8) State.reset) := ⟨rfl, rfl⟩

theorem witness_PeekAttrReadsTheAttributeByte : LayerId.present .bg1 = true ∧
    exec (.pokeAttr .bg1 31#5 31#5 255#8) State.reset =
      .next (after (.pokeAttr .bg1 31#5 31#5 255#8) State.reset) := ⟨rfl, rfl⟩

theorem witness_ReadPixelAfterRenderGivesTheRenderedColor : onScreen 191#8 159#8 = true ∧
    exec .renderFrame scenarioV2 = .next (after .renderFrame scenarioV2) := ⟨rfl, rfl⟩

theorem witness_RenderFrameWritesEveryPixel : onScreen 191#8 159#8 = true ∧ onScreen 0#8 0#8 = true := by decide

/-- Two states that differ in the framebuffer, the port and, where the PPU has no layer 2, in layer 2. -/
theorem witness_FrameDependsOnlyOnTheTables :
    ∀ p : Piece, p.present = true → p ∉ [Piece.framebuffer, Piece.commands, Piece.responses] →
      p.same scenarioV2 { scenarioV2 with fb := [[]], commands := [0#48], responses := [.reject] } := by
  intro p _ hp
  cases p <;> simp_all [Piece.same] <;> intros <;> first | rfl | exact ⟨rfl, rfl⟩

theorem witness_TransparentTilesShowTheBackground :
    (∀ p t r, (arbiterF false).tileAt p t r = 0#8) ∧ onScreen 191#8 159#8 = true :=
  ⟨fun p _ _ => by cases p <;> rfl, rfl⟩

theorem witness_OnlyTheRendererWritesTheFramebuffer :
    exec (.setBgcolor 63#6) State.reset = .next (after (.setBgcolor 63#6) State.reset) ∧
      (Instr.setBgcolor 63#6) ≠ .renderFrame := ⟨rfl, by decide⟩

/-- One layer's flag set, another layer's asked for; a render, the global flag asked for. -/
theorem witness_FlagsChangeOnlyByTheirOwnCommands :
    exec (.setHidden .bg0 true) State.reset = .next (after (.setHidden .bg0 true) State.reset) ∧
    (∀ f, Instr.setHidden .bg0 true ≠ .setHidden .bg1 f) ∧ (∀ f, Instr.setHidden .bg0 true ≠ .setHideSprites f) :=
  ⟨rfl, by decide, by decide⟩

theorem witness_RepeatingACommandChangesNothingMore : isReadCommand (.peekAttr .bg0 0#5 0#5) = true ∧
    exec (.peekAttr .bg0 0#5 0#5) scenarioV2 = .next (after (.peekAttr .bg0 0#5 0#5) scenarioV2) ∧
    exec .renderFrame scenarioV2 = .next (after .renderFrame scenarioV2) := ⟨rfl, rfl, rfl⟩

theorem witness_StepKeepsTheInvariant : (State.reset.withFetchWord 48 0x010000000001).Inv ∧
    step (State.reset.withFetchWord 48 0x010000000001) =
      .next (afterStep (State.reset.withFetchWord 48 0x010000000001)) := by
  refine ⟨⟨rfl, fun p => ?_, fun l => ?_, fun l => ?_, rfl, .inl rfl, fun l _ => ?_⟩, rfl⟩
  · cases p <;> rfl
  · cases l <;> rfl
  · cases l <;> rfl
  · cases l <;> rfl

theorem witness_HitIndexIsSubpaletteTimesEightPlusRaw : (1#3 : BitVec 3) ≠ 0#3 ∧ (7#3 : BitVec 3) ≠ 0#3 := by decide

theorem witness_FlipBitsGiveTheEightOrientations :
    BitVec.extractLsb' 3 3 (0x18#8 : Byte) ≠ BitVec.extractLsb' 3 3 (0x28#8 : Byte) := by decide

theorem witness_FlipIdentities : (7#8 : Byte).toNat < 8 ∧
    BitVec.extractLsb' 3 3 (0xFF#8 : Byte) = BitVec.extractLsb' 3 3 (0x38#8 : Byte) := by decide

/-- Vector V3: stored (2, 0) of tile A is raw 0, in a cell and in a sprite. -/
theorem witness_RawPixelZeroNeverHits :
    (layerD 0#8 0#8).getRawPixel ((layerD 0#8 0#8).mapAt .bg0 (cellAddr (div8 (sub8 2#8 ((layerD 0#8 0#8).layer .bg0).scx))
        (div8 (sub8 0#8 ((layerD 0#8 0#8).layer .bg0).scy))))
      ((layerD 0#8 0#8).attrAt .bg0 (cellAddr (div8 (sub8 2#8 ((layerD 0#8 0#8).layer .bg0).scx))
        (div8 (sub8 0#8 ((layerD 0#8 0#8).layer .bg0).scy))))
      ((mod8 (sub8 2#8 ((layerD 0#8 0#8).layer .bg0).scx)).setWidth 8)
      ((mod8 (sub8 0#8 ((layerD 0#8 0#8).layer .bg0).scy)).setWidth 8) = 0#3 ∧
    spritesE.getRawPixel (spritesE.spriteAt 0#8).tile (spritesE.spriteAt 0#8).attr
      (sub8 12#8 (spritesE.spriteAt 0#8).x) (sub8 20#8 (spritesE.spriteAt 0#8).y) = 0#3 := by decide

theorem witness_HiddenLayerNeverHits : ((layerD 0#8 0#8).setHiddenFlag .bg0 true).hiddenFlag .bg0 = true := by decide

theorem witness_HitsNeverSelectARawZeroEntry :
    (layerD 0#8 0#8).layerHit .bg0 16#8 8#8 = some { color := 42#8, prio := 3#2 } ∧
    spritesE.spriteHit [0#8, 1#8] 12#8 20#8 = some { color := 33#8, prio := 3#2 } := by decide

theorem witness_LowestOpaqueSpriteSuppliesTheHit : spritesE.opaqueSprite 1#8 12#8 20#8 = hit 33#8 3#2 ∧
    (∀ j : Byte, j.toNat < (1#8 : Byte).toNat → spritesE.opaqueSprite j 12#8 20#8 = none) ∧
    ∀ i, State.reset.opaqueSprite i 12#8 20#8 = none := by
  refine ⟨by decide, fun j hj => ?_, fun i => ?_⟩
  · have zero : j = 0#8 := BitVec.eq_of_toNat_eq (by simpa using hj)
    subst zero
    decide
  · have entry : State.reset.spriteAt i = resetSprite := rfl
    unfold State.opaqueSprite
    rw [entry, if_neg (by decide)]

theorem witness_SpriteAtScreenHeightIsNeverGathered :
    (((State.reset.setSprite 5#8 { resetSprite with y := 160#8 }).spriteAt 5#8).y).toNat = Config.screenHeight ∧
    (159#8 : Byte).toNat < Config.screenHeight ∧ (0#8 : Byte).toNat < Config.screenHeight := by decide

/-- A sprite of priority 1 over a layer of equal priority, and under a layer of priority 2. -/
theorem witness_SpriteWinsUpToItsOwnPriority :
    (arbiterF false).visibleSprite (hit 9#8 1#2) = some { color := 9#8, prio := 1#2 } ∧
    (∀ b : Hit, some b ∈ [hit 1#8 1#2, none] → b.prio.toNat ≤ (1#2 : BitVec 2).toNat) ∧
    ∃ b : Hit, some b ∈ [none, hit 17#8 2#2] ∧ (1#2 : BitVec 2).toNat < b.prio.toNat := by
  refine ⟨by decide, ?_, { color := 17#8, prio := 2#2 }, by decide, by decide⟩
  intro b hb
  simp only [hit, List.mem_cons, Option.some.injEq, reduceCtorEq, List.not_mem_nil, or_false] at hb
  subst hb
  decide

/-- Two layers tied at priority 1 over a sprite of priority 0. -/
theorem witness_HighestLayerOfHighestPriorityWins :
    ([hit 1#8 1#2, hit 17#8 1#2] : List (Option Hit))[1]? = some (some { color := 17#8, prio := 1#2 }) ∧
    (∀ h, (arbiterF false).visibleSprite (hit 9#8 0#2) = some h → h.prio.toNat < (1#2 : BitVec 2).toNat) ∧
    ∀ (k : Nat) (c : Hit), ([hit 1#8 1#2, hit 17#8 1#2] : List (Option Hit))[k]? = some (some c) →
      c.prio.toNat < (1#2 : BitVec 2).toNat ∨ (c.prio = 1#2 ∧ k ≤ 1) := by
  refine ⟨by decide, ?_, ?_⟩
  · intro h e
    have : h = { color := 9#8, prio := 0#2 } := by
      simpa [State.visibleSprite, arbiterF, hit, eq_comm] using e
    subst this
    decide
  · intro k c e
    match k, e with
    | 0, e =>
      have : c = { color := 1#8, prio := 1#2 } := by simpa [hit, eq_comm] using e
      subst this
      decide
    | 1, e =>
      have : c = { color := 17#8, prio := 1#2 } := by simpa [hit, eq_comm] using e
      subst this
      decide
    | k + 2, e => simp at e

theorem witness_NothingHitShowsTheBackgroundColour : (arbiterF true).visibleSprite (hit 9#8 3#2) = none ∧
    ∀ h ∈ ([none, none] : List (Option Hit)), h = none := by decide

theorem witness_HideSpritesActsAsNoSpriteHit : (arbiterF true).hideSprites = true := by decide

/-- A host that obeys: a run of two commands, a render and then a pixel. -/
theorem witness_SafeRun :
    SafeRun 2 { State.reset with commands := [0x200000000000#48, 0x12000000BF9F#48] } := by
  refine ⟨by decide, _, rfl, ?_, _, rfl, trivial⟩
  decide +kernel

/-- A pixel read before any frame is not what the spec asks of the host (R284). -/
theorem test_hostObeys_before_a_frame : (State.reset.withFetchWord 48 0x120000000000).hostObeys = false := by decide

end Sys2Proof.Machine.Tests
end

section
/-! SUPPORT. The tile decoder (R120 to R125): where an orientation shows a stored pixel, a tile that tells the eight
orientations apart, and the transparent raw pixel. -/

namespace Sys2Proof.Machine

open Sys2Proof

/-! ### The eight orientations (R122) -/

/-- Bits 5:3 of the attribute byte are `fy fx fd`. -/
theorem flipField_eq (a : Byte) : a.extractLsb' 3 3 =
    BitVec.ofBool (attrFlipY a) ++ BitVec.ofBool (attrFlipX a) ++ BitVec.ofBool (attrFlipDiag a) := by
  apply BitVec.eq_of_getLsbD_eq
  intro i hi
  obtain rfl | rfl | rfl : i = 0 ∨ i = 1 ∨ i = 2 := by omega
  all_goals
    rw [BitVec.getLsbD_append, BitVec.getLsbD_append]
    simp [attrFlipY, attrFlipX, attrFlipDiag]

theorem flip3_involutive : Function.Involutive flip3 := fun v => sub_sub_cancel 7#3 v

theorem mod8_setWidth (x : BitVec 3) : mod8 (x.setWidth 8) = x := by
  apply BitVec.eq_of_toNat_eq
  have := x.isLt
  simp only [mod8, BitVec.extractLsb'_toNat, BitVec.toNat_setWidth, Nat.shiftRight_zero]
  omega

/-- The place on the screen, within the tile, where attribute byte `a` shows the stored pixel `c`: the swap is undone
first, then the flips. -/
def shownAt (a : Byte) (c : BitVec 3 × BitVec 3) : BitVec 3 × BitVec 3 :=
  let d := if attrFlipDiag a then c.swap else c
  (if attrFlipX a then flip3 d.1 else d.1, if attrFlipY a then flip3 d.2 else d.2)

/-- `shownAt` inverts the flips: the decoder reads pixel `c` exactly at the place where `c` is shown. -/
theorem applyFlips_eq_iff (a : Byte) (x y : BitVec 3) (c : BitVec 3 × BitVec 3) :
    applyFlips a x y = c ↔ (x, y) = shownAt a c := by
  obtain ⟨u, v⟩ := c
  unfold applyFlips shownAt
  cases attrFlipDiag a
  · cases attrFlipX a <;> cases attrFlipY a <;> simp [flip3_involutive.eq_iff]
  · cases attrFlipX a <;> cases attrFlipY a <;> simp [flip3_involutive.eq_iff, and_comm]

/-- Pixel (1, 0) lies off every axis of the square: where it is shown tells the three flip bits. -/
theorem flipField_eq_of_shownAt_eq (a b : Byte) (h : shownAt a (1#3, 0#3) = shownAt b (1#3, 0#3)) :
    a.extractLsb' 3 3 = b.extractLsb' 3 3 := by
  rw [flipField_eq, flipField_eq]
  unfold shownAt at h
  generalize attrFlipDiag a = d, attrFlipX a = x, attrFlipY a = y at h ⊢
  generalize attrFlipDiag b = d', attrFlipX b = x', attrFlipY b = y' at h ⊢
  revert d x y d' x' y'
  decide

/-- Tile 0 holds one opaque pixel, at column 1 of row 0. -/
def onePixelTile : State := State.reset.setTile .plane0 0#8 0#3 0x02#8

theorem onePixelTile_storedPixel (x y : BitVec 3) :
    onePixelTile.storedPixel 0#8 x y = if (x, y) = (1#3, 0#3) then 4#3 else 0#3 := by
  revert x y
  decide

/-- The tile reads opaque exactly where its one pixel is shown. -/
theorem onePixelTile_getRawPixel (a : Byte) (x y : BitVec 3) :
    onePixelTile.getRawPixel 0#8 a (x.setWidth 8) (y.setWidth 8) =
      if (x, y) = shownAt a (1#3, 0#3) then 4#3 else 0#3 := by
  simp only [State.getRawPixel, mod8_setWidth, onePixelTile_storedPixel, Prod.mk.eta, applyFlips_eq_iff]

/-- Two bytes whose flip bits differ read the one-pixel tile differently where the first shows its pixel. -/
theorem onePixelTile_distinguishes (a b : Byte) (h : a.extractLsb' 3 3 ≠ b.extractLsb' 3 3) :
    ∃ lx ly, onePixelTile.getRawPixel 0#8 a lx ly ≠ onePixelTile.getRawPixel 0#8 b lx ly := by
  refine ⟨(shownAt a (1#3, 0#3)).1.setWidth 8, (shownAt a (1#3, 0#3)).2.setWidth 8, ?_⟩
  have elsewhere : shownAt a (1#3, 0#3) ≠ shownAt b (1#3, 0#3) := fun e => h (flipField_eq_of_shownAt_eq a b e)
  simp [onePixelTile_getRawPixel, elsewhere]

/-! ### The transparent raw pixel (R124) -/

theorem rawPixel_eq_zero_iff (b0 b1 b2 : Bool) : rawPixel b0 b1 b2 = 0#3 ↔ b0 = false ∧ b1 = false ∧ b2 = false := by
  revert b0 b1 b2
  decide

theorem storedPixel_eq_zero_iff (s : State) (t : Byte) (x y : BitVec 3) :
    s.storedPixel t x y = 0#3 ↔ ∀ p : PlaneId, (s.tileAt p t y).getLsbD x.toNat = false := by
  simp only [State.storedPixel, rawPixel_eq_zero_iff, rowPixel]
  constructor
  · rintro ⟨h0, h1, h2⟩ p
    cases p with
    | plane0 => exact h0
    | plane1 => exact h1
    | plane2 => exact h2
  · exact fun h => ⟨h .plane0, h .plane1, h .plane2⟩

/-- Settles O42: the table by the value of the three bits, and the one-pixel tile for the second clause. -/
theorem flipBitsGiveTheEightOrientations : Obligations.FlipBitsGiveTheEightOrientations := by
  unfold Obligations.FlipBitsGiveTheEightOrientations
  refine ⟨fun s t a lx ly => ?_, onePixelTile, 0#8, onePixelTile_distinguishes⟩
  rw [flipField_eq]
  unfold State.getRawPixel applyFlips
  cases attrFlipY a <;> cases attrFlipX a <;> cases attrFlipDiag a <;> rfl

/-- Settles O45: a layer and a sprite entry show a raw pixel through `colorize`, which makes no hit of 0. -/
theorem rawPixelZeroNeverHits : Obligations.RawPixelZeroNeverHits := by
  unfold Obligations.RawPixelZeroNeverHits
  refine ⟨fun s l sx sy h => ?_, fun s e sx line h => ?_, storedPixel_eq_zero_iff⟩
  · unfold State.layerHit
    split
    · rfl
    · exact (colorize_eq_none _ _).mpr h
  · unfold State.spritePixel
    split
    · exact (colorize_eq_none _ _).mpr h
    · rfl

end Sys2Proof.Machine
end

section
/-! SUPPORT. Background layer resolution (R140 to R147): the coordinate arithmetic read as natural numbers, and the two
cases of `layer_hit`. -/

namespace Sys2Proof.Machine

open Sys2Proof

/-! ### The arithmetic of a layer's cell and of a hit's index, in exact numbers (R10, R33, R92) -/

theorem toNat_sub8 (a b : Byte) : (sub8 a b).toNat = (a.toNat + 256 - b.toNat) % 256 := by
  have := a.isLt
  have := b.isLt
  simp only [sub8, BitVec.toNat_sub]
  omega

theorem toNat_div8 (a : Byte) : (div8 a).toNat = a.toNat / 8 := by
  have := a.isLt
  simp only [div8, BitVec.extractLsb'_toNat, Nat.shiftRight_eq_div_pow]
  omega

theorem toNat_mod8 (a : Byte) : (mod8 a).toNat = a.toNat % 8 := by
  simp [mod8]

theorem toNat_cellAddr (tx ty : BitVec 5) : (cellAddr tx ty).toNat = (tx.toNat + ty.toNat * 32) % 1024 := by
  have := tx.isLt
  have := ty.isLt
  simp only [cellAddr, BitVec.toNat_add, BitVec.toNat_mul, BitVec.toNat_setWidth, BitVec.toNat_ofNat]
  omega

theorem toNat_hitIndex (sub raw : BitVec 3) : (hitIndex sub raw).toNat = sub.toNat * 8 + raw.toNat := by
  have := sub.isLt
  have := raw.isLt
  simp only [hitIndex, BitVec.toNat_add, BitVec.toNat_mul, BitVec.toNat_setWidth, BitVec.toNat_ofNat]
  omega

/-- The cell that holds the scrolled position `(rx, ry)` (R140 steps 3 and 4). -/
theorem cellAddr_div8_eq_ofNat (rx ry : Byte) :
    cellAddr (div8 rx) (div8 ry) = BitVec.ofNat 10 ((rx.toNat / 8 + ry.toNat / 8 * 32) % 1024) := by
  rw [← toNat_div8, ← toNat_div8, ← toNat_cellAddr, BitVec.ofNat_toNat, BitVec.setWidth_eq]

theorem setWidth_mod8_eq_ofNat (a : Byte) : (mod8 a).setWidth 8 = BitVec.ofNat 8 (a.toNat % 8) := by
  rw [← toNat_mod8, BitVec.ofNat_toNat]

theorem hitIndex_eq_ofNat (sub raw : BitVec 3) : hitIndex sub raw = BitVec.ofNat 8 (sub.toNat * 8 + raw.toNat) := by
  rw [← toNat_hitIndex, BitVec.ofNat_toNat, BitVec.setWidth_eq]

/-! ### The two cases of `layer_hit`, and the frame of its hidden flag -/

/-- A hidden layer hits nowhere (R145). -/
theorem layerHit_of_hidden {s : State} {l : LayerId} (h : s.hiddenFlag l = true) (sx sy : Byte) :
    s.layerHit l sx sy = none := by
  unfold State.layerHit
  exact if_pos h

/-- A shown layer shows the raw pixel of the scrolled cell through `colorize`; the scroll, the cell and the place in
the tile are natural numbers. -/
theorem layerHit_of_shown {s : State} {l : LayerId} (h : ¬ s.hiddenFlag l = true) (sx sy : Byte) :
    s.layerHit l sx sy =
      let rx := (sx.toNat + 256 - (s.layer l).scx.toNat) % 256
      let ry := (sy.toNat + 256 - (s.layer l).scy.toNat) % 256
      let a := BitVec.ofNat 10 ((rx / 8 + ry / 8 * 32) % 1024)
      colorize (s.attrAt l a)
        (s.getRawPixel (s.mapAt l a) (s.attrAt l a) (BitVec.ofNat 8 (rx % 8)) (BitVec.ofNat 8 (ry % 8))) := by
  unfold State.layerHit
  rw [if_neg h]
  simp only [cellAddr_div8_eq_ofNat, setWidth_mod8_eq_ofNat, toNat_sub8]

theorem hiddenFlag_setHiddenFlag_of_ne (s : State) {l k : LayerId} (h : k ≠ l) (flag : Bool) :
    (s.setHiddenFlag l flag).hiddenFlag k = s.hiddenFlag k := by
  simp [State.hiddenFlag, h]

theorem scroll_setHiddenFlag (s : State) (l k : LayerId) (flag : Bool) :
    ((s.setHiddenFlag l flag).layer k).scx = (s.layer k).scx ∧
      ((s.setHiddenFlag l flag).layer k).scy = (s.layer k).scy := by
  rw [State.setHiddenFlag_layer]
  split
  · next e => simp [e]
  · exact ⟨rfl, rfl⟩

/-- Hiding or showing a layer touches its own flag only (R145, R215): each piece by its own frame lemma. -/
theorem onlyChanges_setHiddenFlag (s : State) (l : LayerId) (flag : Bool) :
    OnlyChanges [.hidden l] s (s.setHiddenFlag l flag) := by
  intro p hp
  cases p with
  | hidden k => exact hiddenFlag_setHiddenFlag_of_ne s (by simpa using hp) flag
  | scroll k => exact scroll_setHiddenFlag s l k flag
  | palette => exact State.palAt_setHiddenFlag s l flag
  | plane q => exact State.tileAt_setHiddenFlag s l flag q
  | tileMap k => exact State.mapAt_setHiddenFlag s l flag k
  | attrMap k => exact State.attrAt_setHiddenFlag s l flag k
  | spriteTable => exact State.spriteAt_setHiddenFlag s l flag
  | framebuffer => exact State.pixelAt_setHiddenFlag s l flag
  | bgcolor => exact State.setHiddenFlag_bgcolor s l flag
  | hideSprites => exact State.setHiddenFlag_hideSprites s l flag
  | commands => exact State.setHiddenFlag_commands s l flag
  | responses => exact State.setHiddenFlag_responses s l flag

/-- Settles O46: by the hidden flag, and for a shown layer by `colorize` of the raw pixel and the exact hit index. -/
theorem layerHitFollowsItsSteps : Obligations.LayerHitFollowsItsSteps := by
  unfold Obligations.LayerHitFollowsItsSteps
  intro s l sx sy rx ry a raw
  split
  · next hidden => exact layerHit_of_hidden hidden sx sy
  · next shown =>
    have hit : s.layerHit l sx sy = colorize (s.attrAt l a) raw := layerHit_of_shown shown sx sy
    rw [hit, colorize, hitIndex_eq_ofNat]

/-- Settles O47: a hidden layer answers before it reads anything, and the flag is a piece of its own. -/
theorem hiddenLayerNeverHits : Obligations.HiddenLayerNeverHits := by
  unfold Obligations.HiddenLayerNeverHits
  exact ⟨fun _ _ sx sy hidden => layerHit_of_hidden hidden sx sy, fun s l => onlyChanges_setHiddenFlag s l true⟩

end Sys2Proof.Machine
end

section
/-! SUPPORT. The compositor (R180 to R184): the winner of one level and the highest level that has one, and the frame of
the flag that hides all sprites. -/

namespace Sys2Proof.Machine

open Sys2Proof

/-! ### The winner of one level (R181) -/

theorem hitAtLevel_eq_some (level : BitVec 2) (o : Option Hit) (c : Byte) :
    hitAtLevel level o = some c ↔ ∃ h, o = some h ∧ h.prio = level ∧ h.color = c := by
  cases o <;> simp [hitAtLevel]

/-- At its own level the sprite wins, whatever the layers hit there. -/
theorem winnerAtLevel_prio (h : Hit) (hits : List (Option Hit)) :
    winnerAtLevel (some h) hits h.prio = some h.color := by
  simp [winnerAtLevel, hitAtLevel]

/-- What wins at a level is the sprite hit or a layer hit, of that priority. -/
theorem hit_of_winnerAtLevel {sh : Option Hit} {hits : List (Option Hit)} {level : BitVec 2} {c : Byte}
    (w : winnerAtLevel sh hits level = some c) :
    ∃ b, (sh = some b ∨ some b ∈ hits) ∧ b.prio = level ∧ b.color = c := by
  unfold winnerAtLevel at w
  split at w
  · next sprite =>
    obtain ⟨b, hb, k⟩ := (hitAtLevel_eq_some level sh _).mp sprite
    exact ⟨b, .inl hb, by rwa [Option.some.inj w] at k⟩
  · obtain ⟨o, ho, layer⟩ := List.exists_of_findSome?_eq_some w
    obtain ⟨b, rfl, k⟩ := (hitAtLevel_eq_some level o c).mp layer
    exact ⟨b, .inr (List.mem_reverse.mp ho), k⟩

/-- No level has a winner exactly when there is no hit at all (R183). -/
theorem forall_winnerAtLevel_eq_none (sh : Option Hit) (hits : List (Option Hit)) :
    (∀ level, winnerAtLevel sh hits level = none) ↔ sh = none ∧ ∀ o ∈ hits, o = none := by
  simp only [winnerAtLevel_eq_none]
  constructor
  · intro h
    exact ⟨Option.eq_none_iff_forall_ne_some.mpr fun b hb => (h b.prio).1 b hb rfl,
      fun o ho => Option.eq_none_iff_forall_ne_some.mpr fun b hb => (h b.prio).2 b (hb ▸ ho) rfl⟩
  · rintro ⟨rfl, noLayer⟩ level
    exact ⟨by simp, fun b hb => absurd (noLayer _ hb) (by simp)⟩

/-! ### The highest level that has a winner (R180) -/

/-- If a level has a winner, the arbiter answers the winner of that level or of a higher one. -/
theorem exists_winner_ge (s : State) (sh : Option Hit) (hits : List (Option Hit)) (level : BitVec 2)
    (w : winnerAtLevel (s.visibleSprite sh) hits level ≠ none) :
    ∃ m : BitVec 2, level.toNat ≤ m.toNat ∧
      winnerAtLevel (s.visibleSprite sh) hits m = some (s.getTopPixel sh hits) := by
  by_cases above : ∀ m : BitVec 2, level.toNat < m.toNat → winnerAtLevel (s.visibleSprite sh) hits m = none
  · obtain ⟨c, hc⟩ := Option.ne_none_iff_exists'.mp w
    exact ⟨level, le_rfl, by rw [getTopPixel_of_winner s sh hits level c hc above, hc]⟩
  · push Not at above
    obtain ⟨higher, lt, w'⟩ := above
    obtain ⟨m, le, top⟩ := exists_winner_ge s sh hits higher w'
    exact ⟨m, lt.le.trans le, top⟩
termination_by 4 - level.toNat
decreasing_by
  have := higher.isLt
  omega

/-- Settles O55: no level above the sprite's has a winner, or a level above it has one, which is no sprite. -/
theorem spriteWinsUpToItsOwnPriority : Obligations.SpriteWinsUpToItsOwnPriority := by
  unfold Obligations.SpriteWinsUpToItsOwnPriority
  intro s sh hits h visible
  constructor
  · intro noneAbove
    refine getTopPixel_of_winner s sh hits h.prio h.color (by rw [visible, winnerAtLevel_prio]) fun m lt => ?_
    rw [visible, winnerAtLevel_eq_none]
    constructor
    · rintro _ ⟨⟩ rfl
      exact lt.false
    · rintro b hb rfl
      exact (noneAbove b hb).not_gt lt
  · rintro ⟨b, hb, lt⟩
    have w : winnerAtLevel (s.visibleSprite sh) hits b.prio ≠ none := fun e =>
      ((winnerAtLevel_eq_none _ _ _).mp e).2 b hb rfl
    obtain ⟨m, le, top⟩ := exists_winner_ge s sh hits b.prio w
    obtain ⟨d, sprite | layer, rfl, color⟩ := hit_of_winnerAtLevel top
    · obtain rfl : h = d := Option.some.inj (visible.symm.trans sprite)
      exact absurd lt le.not_gt
    · exact ⟨d, layer, lt.trans_le le, color.symm⟩

/-- Settles O57: every hit gives its own level a winner; with none, only the last case of the arbiter is left. -/
theorem nothingHitShowsTheBackgroundColour : Obligations.NothingHitShowsTheBackgroundColour := by
  unfold Obligations.NothingHitShowsTheBackgroundColour
  intro s sh hits
  have noWinner := forall_winnerAtLevel_eq_none (s.visibleSprite sh) hits
  refine ⟨noWinner.symm, fun noHit => ?_⟩
  obtain ⟨level, w⟩ | background := getTopPixel_cases s sh hits
  · rw [noWinner.mpr noHit level] at w
    cases w
  · exact background

/-! ### The flag that hides all sprites (R184) -/

/-- The arbiter reads its sprite hit only as the visible one. -/
theorem getTopPixel_congr {s : State} {sh sh' : Option Hit} (h : s.visibleSprite sh = s.visibleSprite sh')
    (hits : List (Option Hit)) : s.getTopPixel sh hits = s.getTopPixel sh' hits := by
  unfold State.getTopPixel
  rw [h]

theorem visibleSprite_of_hideSprites {s : State} (h : s.hideSprites = true) (sh : Option Hit) :
    s.visibleSprite sh = none := if_pos h

theorem getRawPixel_setHideSpritesFlag (s : State) (flag : Bool) (t a lx ly : Byte) :
    (s.setHideSpritesFlag flag).getRawPixel t a lx ly = s.getRawPixel t a lx ly := by
  simp [State.getRawPixel, State.storedPixel]

/-- No step of `layer_hit` reads the flag. -/
theorem layerHit_setHideSpritesFlag (s : State) (flag : Bool) (l : LayerId) (sx sy : Byte) :
    (s.setHideSpritesFlag flag).layerHit l sx sy = s.layerHit l sx sy := by
  simp [State.layerHit, getRawPixel_setHideSpritesFlag]

/-- Settles O58: the visible sprite is none either way, and the flag is no part of a layer's hit. -/
theorem hideSpritesActsAsNoSpriteHit : Obligations.HideSpritesActsAsNoSpriteHit := by
  unfold Obligations.HideSpritesActsAsNoSpriteHit
  constructor
  · intro s sh hits hidden
    exact getTopPixel_congr (by simp only [visibleSprite_of_hideSprites hidden]) hits
  · intro s flag x y
    simp only [State.layerHits, State.presentHit, layerHit_setHideSpritesFlag]

end Sys2Proof.Machine
end

section
/-! SUPPORT. Command words (R97, R99): the fields of a word of each format, and which words the decoder refuses. -/

namespace Sys2Proof

/-! ### The fields of a word of each format (R97) -/

theorem fields_formatC (op : Byte) (layer : LayerId) (tx ty : BitVec 5) (data : Byte) :
    let w := place 40 op ||| place 18 (layerBits layer) ||| place 13 ty ||| place 8 tx ||| place 0 data
    opcodeField w = op ∧ field w 20 20 = 0#20 ∧ field w 18 2 = layerBits layer ∧ field w 13 5 = ty ∧
      field w 8 5 = tx ∧ field w 0 8 = data := by
  simp [opcodeField, field_or, field_place_same, field_place_apart]

theorem fields_formatCR (op : Byte) (layer : LayerId) (tx ty : BitVec 5) :
    let w := place 40 op ||| place 18 (layerBits layer) ||| place 13 ty ||| place 8 tx
    opcodeField w = op ∧ field w 20 20 = 0#20 ∧ field w 18 2 = layerBits layer ∧ field w 13 5 = ty ∧
      field w 8 5 = tx ∧ field w 0 8 = 0#8 := by
  simp [opcodeField, field_or, field_place_same, field_place_apart]

theorem fields_formatS (op : Byte) (layer : LayerId) (x y : Byte) :
    let w := place 40 op ||| place 16 (layerBits layer) ||| place 8 x ||| place 0 y
    opcodeField w = op ∧ field w 18 22 = 0#22 ∧ field w 16 2 = layerBits layer ∧ field w 8 8 = x ∧
      field w 0 8 = y := by
  simp [opcodeField, field_or, field_place_same, field_place_apart]

theorem fields_formatF (op : Byte) (layer : LayerId) (flag : BitVec 1) :
    let w := place 40 op ||| place 8 (layerBits layer) ||| place 0 flag
    opcodeField w = op ∧ field w 10 30 = 0#30 ∧ field w 8 2 = layerBits layer ∧ field w 1 7 = 0#7 ∧
      field w 0 1 = flag := by
  simp [opcodeField, field_or, field_place_same, field_place_apart]

theorem fields_formatO (op idx x y tile attr : Byte) :
    let w := place 40 op ||| place 32 idx ||| place 24 x ||| place 16 y ||| place 8 tile ||| place 0 attr
    opcodeField w = op ∧ field w 32 8 = idx ∧ field w 24 8 = x ∧ field w 16 8 = y ∧ field w 8 8 = tile ∧
      field w 0 8 = attr := by
  simp [opcodeField, field_or, field_place_same, field_place_apart]

theorem fields_formatP (op : Byte) (pidx : BitVec 6) (r g b : Byte) :
    let w := place 40 op ||| place 24 pidx ||| place 16 r ||| place 8 g ||| place 0 b
    opcodeField w = op ∧ field w 30 10 = 0#10 ∧ field w 24 6 = pidx ∧ field w 16 8 = r ∧ field w 8 8 = g ∧
      field w 0 8 = b := by
  simp [opcodeField, field_or, field_place_same, field_place_apart]

/-! ### Refused words (R99) -/

/-- The decoder refuses a word whose fields give no command, or one that is not well-formed. -/
theorem decode_eq_none_iff (w : CmdWord) :
    decode w = none ↔ ∀ i, decodeOperands w = some i → i.wellFormed = false := by
  simp only [Option.eq_none_iff_forall_ne_some, ne_eq, decode_eq_some_iff, not_and, Bool.not_eq_true]

/-- A 2-bit field names no layer the PPU has exactly when it is `NUM_LAYERS` or more (R99 case 3). -/
theorem layerOfBits_absent_iff (v : BitVec 2) :
    (∀ l, layerOfBits v = some l → l.present = false) ↔ Config.numLayers ≤ v.toNat := by
  have four : ∀ v : BitVec 2, v = 0#2 ∨ v = 1#2 ∨ v = 2#2 ∨ v = 3#2 := by decide
  simp only [← Bool.not_eq_true, LayerId.present_iff, not_lt]
  obtain rfl | rfl | rfl | rfl := four v
  · simp [layerOfBits, LayerId.number]
  · simp [layerOfBits, LayerId.number]
  · simp [layerOfBits, LayerId.number]
  · have : Config.numLayers ≤ 3 := by
      obtain e | e := numLayers_cases <;> simp [e]
    simpa [layerOfBits] using this

/-- In a format with a `layer` field, refused are the words with a must-be-zero bit set or an absent layer. -/
theorem decode_eq_none_iff_of_layer {w : CmdWord} {zero : Prop} [Decidable zero] {v : BitVec 2} {mk : LayerId → Instr}
    (operands : decodeOperands w = if zero then (layerOfBits v).map mk else none)
    (legal : ∀ l, (mk l).wellFormed = l.present) :
    decode w = none ↔ ¬ zero ∨ Config.numLayers ≤ v.toNat := by
  rw [decode_eq_none_iff, operands, ← layerOfBits_absent_iff]
  by_cases h : zero
  · simp [h, legal]
  · simp [h]

/-- In a format without value conditions, refused are the words with a must-be-zero bit set. -/
theorem decode_eq_none_iff_of_zero {w : CmdWord} {zero : Prop} [Decidable zero] {i : Instr}
    (operands : decodeOperands w = if zero then some i else none) (legal : i.wellFormed = true) :
    decode w = none ↔ ¬ zero := by
  rw [decode_eq_none_iff, operands]
  by_cases h : zero
  · simp [h, legal]
  · simp [h]

end Sys2Proof
end

section
/-! SUPPORT. Frames: the pieces each update of the state changes, and the pieces each command can change. -/

namespace Sys2Proof.Machine

open Sys2Proof

/-! ### Frames of the updates -/

theorem onlyChanges_refl (s : State) : OnlyChanges [] s s := by
  intro p _
  cases p <;> simp [Piece.same]

/-- Responding after a change writes the responses besides. -/
theorem OnlyChanges.respond {ps : List Piece} {s t : State} (h : OnlyChanges ps s t) (r : Response) :
    OnlyChanges (ps ++ [.responses]) s (t.respond r) := by
  intro p hp
  obtain ⟨other, notResponses⟩ : p ∉ ps ∧ p ≠ .responses := by simpa using hp
  have same := h p other
  cases p with
  | responses => exact absurd rfl notResponses
  | _ => simpa [Piece.same] using same

theorem onlyChanges_setPal (s : State) (i : BitVec 6) (c : Color) : OnlyChanges [.palette] s (s.setPal i c) := by
  intro p hp
  cases p with
  | palette => exact absurd (List.mem_singleton_self _) hp
  | _ => simp [Piece.same]

theorem onlyChanges_setSprite (s : State) (i : Byte) (e : Sprite) : OnlyChanges [.spriteTable] s (s.setSprite i e) := by
  intro p hp
  cases p with
  | spriteTable => exact absurd (List.mem_singleton_self _) hp
  | _ => simp [Piece.same]

theorem onlyChanges_setTile (s : State) (q : PlaneId) (t : Byte) (r : BitVec 3) (v : Byte) :
    OnlyChanges [.plane q] s (s.setTile q t r v) := by
  intro p hp
  cases p with
  | plane q' =>
    have ne : q' ≠ q := by simpa using hp
    simp [Piece.same, State.tileAt_setTile, ne]
  | _ => simp [Piece.same]

theorem onlyChanges_setBgcolor (s : State) (v : BitVec 6) : OnlyChanges [.bgcolor] s (s.setBgcolor v) := by
  intro p hp
  cases p with
  | bgcolor => exact absurd (List.mem_singleton_self _) hp
  | _ => simp [Piece.same]

theorem onlyChanges_setHideSpritesFlag (s : State) (flag : Bool) :
    OnlyChanges [.hideSprites] s (s.setHideSpritesFlag flag) := by
  intro p hp
  cases p with
  | hideSprites => exact absurd (List.mem_singleton_self _) hp
  | _ => simp [Piece.same]

theorem onlyChanges_setFrame (s : State) (f : List (List Color)) : OnlyChanges [.framebuffer] s (s.setFrame f) := by
  intro p hp
  cases p with
  | framebuffer => exact absurd (List.mem_singleton_self _) hp
  | _ => simp [Piece.same]

/-- Replacing a layer changes only those of its four pieces in which the new layer differs. -/
theorem onlyChanges_setLayer {ps : List Piece} (s : State) (l : LayerId) (b : Layer)
    (map : .tileMap l ∈ ps ∨ b.map = (s.layer l).map) (attr : .attrMap l ∈ ps ∨ b.attr = (s.layer l).attr)
    (scroll : .scroll l ∈ ps ∨ b.scx = (s.layer l).scx ∧ b.scy = (s.layer l).scy)
    (hidden : .hidden l ∈ ps ∨ b.hidden = (s.layer l).hidden) : OnlyChanges ps s (s.setLayer l b) := by
  intro p hp
  cases p with
  | tileMap k =>
    obtain rfl | other := eq_or_ne k l
    · simp [Piece.same, State.mapAt, map.resolve_left hp]
    · simp [Piece.same, State.mapAt, other]
  | attrMap k =>
    obtain rfl | other := eq_or_ne k l
    · simp [Piece.same, State.attrAt, attr.resolve_left hp]
    · simp [Piece.same, State.attrAt, other]
  | scroll k =>
    obtain rfl | other := eq_or_ne k l
    · simp [Piece.same, scroll.resolve_left hp]
    · simp [Piece.same, other]
  | hidden k =>
    obtain rfl | other := eq_or_ne k l
    · simp [Piece.same, State.hiddenFlag, hidden.resolve_left hp]
    · simp [Piece.same, State.hiddenFlag, other]
  | _ => simp [Piece.same, State.palAt, State.tileAt, State.spriteAt, State.pixelAt]

theorem onlyChanges_setMap (s : State) (l : LayerId) (a : BitVec 10) (v : Byte) :
    OnlyChanges [.tileMap l] s (s.setMap l a v) :=
  onlyChanges_setLayer s l _ (.inl (List.mem_singleton_self _)) (.inr rfl) (.inr ⟨rfl, rfl⟩) (.inr rfl)

theorem onlyChanges_setAttr (s : State) (l : LayerId) (a : BitVec 10) (v : Byte) :
    OnlyChanges [.attrMap l] s (s.setAttr l a v) :=
  onlyChanges_setLayer s l _ (.inr rfl) (.inl (List.mem_singleton_self _)) (.inr ⟨rfl, rfl⟩) (.inr rfl)

theorem onlyChanges_setScroll (s : State) (l : LayerId) (x y : Byte) :
    OnlyChanges [.scroll l] s (s.setScroll l x y) :=
  onlyChanges_setLayer s l _ (.inr rfl) (.inr rfl) (.inl (List.mem_singleton_self _)) (.inr rfl)

/-! ### Frames of the commands -/

/-- The pieces a command may write, the responses apart: "State written" of R212 to R226. -/
def writtenPieces : Instr → List Piece
  | .pokeTile layer _ _ _ => [.tileMap layer]
  | .pokeAttr layer _ _ _ => [.attrMap layer]
  | .setScroll layer _ _ => [.scroll layer]
  | .setHidden layer _ => [.hidden layer]
  | .setSprite _ _ _ _ _ => [.spriteTable]
  | .hideSprite _ => [.spriteTable]
  | .setPalette _ _ _ _ => [.palette]
  | .setTileRow plane _ _ _ => [.plane plane]
  | .setBgcolor _ => [.bgcolor]
  | .setHideSprites _ => [.hideSprites]
  | .peekTile _ _ _ => []
  | .peekAttr _ _ _ => []
  | .readPixel _ _ => []
  | .readPixelArgb _ _ => []
  | .renderFrame => [.framebuffer]

/-- Every command, where it is legal, changes its pieces and then responds; where it is not, it is refused. -/
theorem exec_eq_performIf (i : Instr) (s : State) :
    ∃ t r, exec i s = performIf i.wellFormed (t.respond r) s ∧ OnlyChanges (writtenPieces i) s t := by
  cases i with
  | pokeTile l tx ty v => exact ⟨_, _, rfl, onlyChanges_setMap s l _ v⟩
  | pokeAttr l tx ty v => exact ⟨_, _, rfl, onlyChanges_setAttr s l _ v⟩
  | setScroll l x y => exact ⟨_, _, rfl, onlyChanges_setScroll s l x y⟩
  | setHidden l flag => exact ⟨_, _, rfl, onlyChanges_setHiddenFlag s l flag⟩
  | setSprite i x y tile attr => exact ⟨_, _, rfl, onlyChanges_setSprite s i _⟩
  | hideSprite i => exact ⟨_, _, rfl, onlyChanges_setSprite s i _⟩
  | setPalette i r g b => exact ⟨_, _, rfl, onlyChanges_setPal s i _⟩
  | setTileRow q tile row v => exact ⟨_, _, rfl, onlyChanges_setTile s q tile row v⟩
  | setBgcolor i => exact ⟨_, _, rfl, onlyChanges_setBgcolor s i⟩
  | setHideSprites flag => exact ⟨_, _, rfl, onlyChanges_setHideSpritesFlag s flag⟩
  | renderFrame => exact ⟨_, _, rfl, onlyChanges_setFrame s _⟩
  | _ => exact ⟨_, _, rfl, onlyChanges_refl s⟩

/-- Whatever a command answers, every piece but its own and the responses reads as before. -/
theorem onlyChanges_of_exec {i : Instr} {s t : State} (h : exec i s = .next t) :
    OnlyChanges (writtenPieces i ++ [.responses]) s t := by
  obtain ⟨u, r, answer, frame⟩ := exec_eq_performIf i s
  obtain ⟨-, rfl⟩ | ⟨-, rfl⟩ := performIf_next (answer.symm.trans h)
  · exact frame.respond r
  · intro p hp
    exact (onlyChanges_refl s).respond .reject p fun k => hp (List.mem_append_right _ k)

/-- Only `SET_SCROLL` of the layer has its scroll registers among its pieces (R214). -/
theorem scroll_mem_writtenPieces {l : LayerId} {i : Instr} (h : .scroll l ∈ writtenPieces i) :
    ∃ x y, i = .setScroll l x y := by
  cases i with
  | setScroll k x y =>
    obtain rfl : l = k := by simpa [writtenPieces] using h
    exact ⟨x, y, rfl⟩
  | _ => simp [writtenPieces] at h

end Sys2Proof.Machine
end

section
/-! SUPPORT. What a render reads (R187, R188): the hits of `NUM_LAYERS` layers, and no framebuffer and no port. -/

namespace Sys2Proof.Machine

open Sys2Proof

/-! ### The hits of the layers the PPU has (R147) -/

theorem presentHit_of_present {l : LayerId} (h : l.present = true) (s : State) (x y : Byte) :
    s.presentHit l x y = s.layerHit l x y := by
  unfold State.presentHit
  split
  · next e => exact e.symm
  · next e => rw [if_pos h, e]

theorem presentHit_of_absent {l : LayerId} (h : l.present = false) (s : State) (x y : Byte) :
    s.presentHit l x y = none := by
  unfold State.presentHit
  split
  · rfl
  · rw [h]
    rfl

theorem winnerAtLevel_append_none (sh : Option Hit) (hits : List (Option Hit)) (level : BitVec 2) :
    winnerAtLevel sh (hits ++ [none]) level = winnerAtLevel sh hits level := by
  have layers : (layerOrder (hits ++ [none])).findSome? (hitAtLevel level) =
      (layerOrder hits).findSome? (hitAtLevel level) := by
    rw [layerOrder, List.reverse_append]
    rfl
  rw [winnerAtLevel, layers, winnerAtLevel]

/-- A layer above all others that hits nothing does not show. -/
theorem getTopPixel_append_none (s : State) (sh : Option Hit) (hits : List (Option Hit)) :
    s.getTopPixel sh (hits ++ [none]) = s.getTopPixel sh hits := by
  have winner : winnerAtLevel (s.visibleSprite sh) (hits ++ [none]) = winnerAtLevel (s.visibleSprite sh) hits :=
    funext (winnerAtLevel_append_none _ hits)
  rw [State.getTopPixel, winner, State.getTopPixel]

/-- The arbiter answers for the three places of `layerHits` what it answers for the `NUM_LAYERS` hits of R147. -/
theorem getTopPixel_layerHits (s : State) (sh : Option Hit) (x y : Byte) :
    s.getTopPixel sh (s.layerHits x y) = s.getTopPixel sh (s.hitsOfNumLayers x y) := by
  have bg0 := presentHit_of_present (l := .bg0) rfl s x y
  have bg1 := presentHit_of_present (l := .bg1) rfl s x y
  have bg2 := LayerId.present_iff .bg2
  obtain two | three := numLayers_cases
  · have absent : LayerId.bg2.present = false := by simp [← Bool.not_eq_true, bg2, two, LayerId.number]
    have hits : s.layerHits x y = s.hitsOfNumLayers x y ++ [none] := by
      simp [State.layerHits, State.hitsOfNumLayers, two, bg0, bg1, presentHit_of_absent absent]
    rw [hits, getTopPixel_append_none]
  · have present : LayerId.bg2.present = true := by simp [bg2, three, LayerId.number]
    have hits : s.layerHits x y = s.hitsOfNumLayers x y := by
      simp [State.layerHits, State.hitsOfNumLayers, three, bg0, bg1, presentHit_of_present present]
    rw [hits]

/-! ### Two states that differ at most in framebuffer, port and absent layers render the same frame (R187) -/

section
variable {s t : State}
  (same : ∀ p : Piece, p.present = true → p ∉ [Piece.framebuffer, Piece.commands, Piece.responses] → p.same s t)
include same

theorem getRawPixel_of_same (n a lx ly : Byte) : t.getRawPixel n a lx ly = s.getRawPixel n a lx ly := by
  have planes (p : PlaneId) : ∀ tile row, t.tileAt p tile row = s.tileAt p tile row := same (.plane p) rfl (by simp)
  simp only [State.getRawPixel, State.storedPixel, planes]

theorem presentHit_of_same (l : LayerId) (x y : Byte) : t.presentHit l x y = s.presentHit l x y := by
  cases h : l.present with
  | false => rw [presentHit_of_absent h, presentHit_of_absent h]
  | true =>
    have map : ∀ a, t.mapAt l a = s.mapAt l a := same (.tileMap l) h (by simp)
    have attr : ∀ a, t.attrAt l a = s.attrAt l a := same (.attrMap l) h (by simp)
    have hidden : t.hiddenFlag l = s.hiddenFlag l := same (.hidden l) h (by simp)
    obtain ⟨scx, scy⟩ := same (.scroll l) h (by simp)
    simp only [presentHit_of_present h, State.layerHit, map, attr, hidden, scx, scy, getRawPixel_of_same same]

theorem spriteAt_of_same (i : Byte) : t.spriteAt i = s.spriteAt i := same .spriteTable rfl (by simp) i

theorem spriteHit_of_same (g : List Byte) (x y : Byte) : t.spriteHit g x y = s.spriteHit g x y := by
  induction g with
  | nil => rfl
  | cons i g ih => simp only [State.spriteHit, State.spritePixel, spriteAt_of_same same, getRawPixel_of_same same, ih]

theorem topIndex_of_same (g : List Byte) (x y : Byte) : t.topIndex g x y = s.topIndex g x y := by
  have hideSprites : t.hideSprites = s.hideSprites := same .hideSprites rfl (by simp)
  have bgcolor : t.bgcolor = s.bgcolor := same .bgcolor rfl (by simp)
  simp only [State.topIndex, State.getTopPixel, State.visibleSprite, State.layerHits, hideSprites, bgcolor,
    spriteHit_of_same same, presentHit_of_same same]

theorem renderedFrame_of_same : t.renderedFrame = s.renderedFrame := by
  have pal : ∀ i, t.palAt i = s.palAt i := same .palette rfl (by simp)
  simp only [State.renderedFrame, State.renderLine, State.gather, State.colorOf, pal, spriteAt_of_same same,
    topIndex_of_same same]

end

end Sys2Proof.Machine
end

section
/-! SUPPORT. The host commands (R212 to R226): the statements about single commands. -/

namespace Sys2Proof.Machine

open Sys2Proof

/-! ### What the commands' effects show -/

/-- A layer hits at a position what it hits unscrolled at the position less its scroll, wrapping (R140, R214). -/
theorem layerHit_eq_unscrolled (s : State) (l : LayerId) (sx sy : Byte) :
    s.layerHit l sx sy = (s.setScroll l 0#8 0#8).layerHit l (sx - (s.layer l).scx) (sy - (s.layer l).scy) := by
  simp [State.layerHit, sub8, State.getRawPixel, State.storedPixel]

/-- A sprite at `y = SCREEN_HEIGHT` is below every visible scanline: its box does not wrap that far (R166). -/
theorem notMem_gather_of_screenHeight {s : State} {i line : Byte} (hy : (s.spriteAt i).y.toNat = Config.screenHeight)
    (visible : line.toNat < Config.screenHeight) : i ∉ s.gather line := by
  simp only [Config.screenHeight] at hy visible
  rw [mem_gather, inBox_iff, hy]
  omega

theorem exec_pokeTile_of_present {l : LayerId} (h : l.present = true) (tx ty : BitVec 5) (v : Byte) (s : State) :
    exec (.pokeTile l tx ty v) s = .next ((s.setMap l (cellAddr tx ty) v).respond .ok) := by
  simp [exec, execPokeTile, h, performIf_true]

theorem exec_pokeAttr_of_present {l : LayerId} (h : l.present = true) (tx ty : BitVec 5) (v : Byte) (s : State) :
    exec (.pokeAttr l tx ty v) s = .next ((s.setAttr l (cellAddr tx ty) v).respond .ok) := by
  simp [exec, execPokeAttr, h, performIf_true]

theorem exec_peekTile_of_present {l : LayerId} (h : l.present = true) (tx ty : BitVec 5) (s : State) :
    exec (.peekTile l tx ty) s = .next (s.respond (.okValue ((s.mapAt l (cellAddr tx ty)).setWidth 32))) := by
  simp [exec, execPeekTile, h, performIf_true]

theorem exec_peekAttr_of_present {l : LayerId} (h : l.present = true) (tx ty : BitVec 5) (s : State) :
    exec (.peekAttr l tx ty) s = .next (s.respond (.okValue ((s.attrAt l (cellAddr tx ty)).setWidth 32))) := by
  simp [exec, execPeekAttr, h, performIf_true]

theorem reset_mapAt (l : LayerId) (a : BitVec 10) : State.reset.mapAt l a = 0#8 := by cases l <;> rfl

theorem reset_attrAt (l : LayerId) (a : BitVec 10) : State.reset.attrAt l a = 0#8 := by cases l <;> rfl

/-! ### Write commands -/

/-- Settles O15: the cell just written, the frame of the tile grid, and the fields and refused words of format C. -/
theorem pokeTileWritesTheTileIndex : Obligations.PokeTileWritesTheTileIndex := by
  unfold Obligations.PokeTileWritesTheTileIndex
  intro layer tx ty data s
  obtain ⟨op, zero, fLayer, fTy, fTx, fData⟩ := fields_formatC 0x01#8 layer tx ty data
  refine ⟨⟨(s.setMap layer (cellAddr tx ty) data).respond .ok, rfl, ?_, ?_, by simp,
    (onlyChanges_setMap s layer _ data).respond .ok⟩, toNat_cellAddr tx ty, op, zero, fLayer, fTy, fTx, fData, ?_⟩
  · simp [State.mapAt_setMap]
  · intro a other
    simp [State.mapAt_setMap, other]
  · intro w opcode
    have operands : decodeOperands w = decodeC w .pokeTile := by simp [decodeOperands, opcode]
    exact decode_eq_none_iff_of_layer operands fun _ => rfl

/-- Settles O16: the byte just written, the frame of the `ATTR` grid, and the fields and refused words of format C. -/
theorem pokeAttrWritesTheAttributeByte : Obligations.PokeAttrWritesTheAttributeByte := by
  unfold Obligations.PokeAttrWritesTheAttributeByte
  intro layer tx ty data s
  obtain ⟨op, zero, fLayer, fTy, fTx, fData⟩ := fields_formatC 0x02#8 layer tx ty data
  refine ⟨⟨(s.setAttr layer (cellAddr tx ty) data).respond .ok, rfl, ?_, ?_, by simp,
    (onlyChanges_setAttr s layer _ data).respond .ok⟩, toNat_cellAddr tx ty, op, zero, fLayer, fTy, fTx, fData, ?_⟩
  · simp [State.attrAt_setAttr]
  · intro a other
    simp [State.attrAt_setAttr, other]
  · intro w opcode
    have operands : decodeOperands w = decodeC w .pokeAttr := by simp [decodeOperands, opcode]
    exact decode_eq_none_iff_of_layer operands fun _ => rfl

/-- Settles O17: `layerHit_eq_unscrolled` for the wrapping effect, the pieces of every command for the last clause. -/
theorem setScrollWritesBothOffsets : Obligations.SetScrollWritesBothOffsets := by
  unfold Obligations.SetScrollWritesBothOffsets
  intro layer x y s
  obtain ⟨op, zero, fLayer, fX, fY⟩ := fields_formatS 0x03#8 layer x y
  have scx : (((s.setScroll layer x y).respond .ok).layer layer).scx = x := by simp
  have scy : (((s.setScroll layer x y).respond .ok).layer layer).scy = y := by simp
  refine ⟨⟨(s.setScroll layer x y).respond .ok, rfl, scx, scy, by simp,
    (onlyChanges_setScroll s layer x y).respond .ok, ?_⟩, op, zero, fLayer, fX, fY, ?_, ?_⟩
  · intro sx sy
    rw [layerHit_eq_unscrolled, scx, scy]
  · intro w opcode
    have operands : decodeOperands w = decodeS w .setScroll := by simp [decodeOperands, opcode]
    exact decode_eq_none_iff_of_layer operands fun _ => rfl
  · intro i u v run notScroll
    refine onlyChanges_of_exec run (.scroll layer) fun written => ?_
    obtain ⟨x, y, rfl⟩ := scroll_mem_writtenPieces (by simpa using written)
    exact notScroll x y rfl

/-- Settles O18: a hidden layer hits nowhere, and the flag is a piece of its own. -/
theorem setHiddenWritesTheLayerFlag : Obligations.SetHiddenWritesTheLayerFlag := by
  unfold Obligations.SetHiddenWritesTheLayerFlag
  intro layer flag s
  obtain ⟨op, zeroHigh, fLayer, zeroLow, fFlag⟩ := fields_formatF 0x04#8 layer (BitVec.ofBool flag)
  have written : ((s.setHiddenFlag layer flag).respond .ok).hiddenFlag layer = flag := by simp [State.hiddenFlag]
  refine ⟨⟨(s.setHiddenFlag layer flag).respond .ok, rfl, written, by simp,
    (onlyChanges_setHiddenFlag s layer flag).respond .ok, fun set => layerHit_of_hidden (written.trans set)⟩,
    op, zeroHigh, fLayer, zeroLow, fFlag, ?_⟩
  intro w opcode
  have operands : decodeOperands w = decodeF w .setHidden := by simp [decodeOperands, opcode]
  rw [decode_eq_none_iff_of_layer operands fun _ => rfl, not_and_or, or_assoc]

/-- Settles O19: the entry just written, and for the refused words that format O has no bit that must be zero. -/
theorem setSpriteWritesTheWholeEntry : Obligations.SetSpriteWritesTheWholeEntry := by
  unfold Obligations.SetSpriteWritesTheWholeEntry
  constructor
  · intro idx x y tile attr s
    have written : ((s.setSprite idx ⟨x, y, tile, attr⟩).respond .ok).spriteAt idx = ⟨x, y, tile, attr⟩ := by
      simp [State.spriteAt_setSprite]
    refine ⟨⟨(s.setSprite idx ⟨x, y, tile, attr⟩).respond .ok, rfl, written, ?_, rfl,
      (onlyChanges_setSprite s idx _).respond .ok, ?_⟩, fields_formatO 0x05#8 idx x y tile attr⟩
    · intro i other
      simp [State.spriteAt_setSprite, other]
    · intro below line visible
      exact notMem_gather_of_screenHeight (by rw [written, below]) visible
  · intro w opcode
    have operands : decodeOperands w = decodeO w .setSprite := by simp [decodeOperands, opcode]
    simp [decode_eq_none_iff, operands, decodeO, Instr.wellFormed]

/-- Settles O21: the entry just written, the frame of the palette, and the fields and refused words of format P. -/
theorem setPaletteWritesOneEntry : Obligations.SetPaletteWritesOneEntry := by
  unfold Obligations.SetPaletteWritesOneEntry
  intro pidx r g b s
  obtain ⟨op, zero, fPidx, fR, fG, fB⟩ := fields_formatP 0x07#8 pidx r g b
  refine ⟨⟨(s.setPal pidx ⟨r, g, b⟩).respond .ok, rfl, ?_, ?_, rfl,
    (onlyChanges_setPal s pidx _).respond .ok⟩, op, zero, fPidx, fR, fG, fB, ?_⟩
  · simp [State.palAt_setPal]
  · intro i other
    simp [State.palAt_setPal, other]
  · intro w opcode
    have operands : decodeOperands w = decodeP w .setPalette := by simp [decodeOperands, opcode]
    exact decode_eq_none_iff_of_zero operands rfl

/-! ### Read commands -/

/-- Settles O25: a peek only responds; after a poke it reads the cell just written. -/
theorem peekTileReadsTheTileIndex : Obligations.PeekTileReadsTheTileIndex := by
  unfold Obligations.PeekTileReadsTheTileIndex
  intro layer tx ty s
  obtain ⟨op, zeroHigh, fLayer, fTy, fTx, zeroLow⟩ := fields_formatCR 0x10#8 layer tx ty
  refine ⟨⟨_, rfl, rfl, (onlyChanges_refl s).respond _⟩, ?_, reset_mapAt _ _, toNat_cellAddr tx ty,
    op, zeroHigh, fLayer, fTy, fTx, zeroLow, ?_⟩
  · intro data t present poked
    obtain rfl := Host.Outcome.next.inj ((exec_pokeTile_of_present present tx ty data s).symm.trans poked)
    exact ⟨_, exec_peekTile_of_present present tx ty _, by simp [State.mapAt_setMap]⟩
  · intro w opcode
    have operands : decodeOperands w = decodeCR w .peekTile := by simp [decodeOperands, opcode]
    rw [decode_eq_none_iff_of_layer operands fun _ => rfl, not_and_or, or_assoc]

/-- Settles O26: a peek of the `ATTR` grid only responds; after a poke it reads the byte just written. -/
theorem peekAttrReadsTheAttributeByte : Obligations.PeekAttrReadsTheAttributeByte := by
  unfold Obligations.PeekAttrReadsTheAttributeByte
  intro layer tx ty s
  obtain ⟨op, zeroHigh, fLayer, fTy, fTx, zeroLow⟩ := fields_formatCR 0x11#8 layer tx ty
  refine ⟨⟨_, rfl, rfl, (onlyChanges_refl s).respond _⟩, ?_, reset_attrAt _ _, toNat_cellAddr tx ty,
    op, zeroHigh, fLayer, fTy, fTx, zeroLow, ?_⟩
  · intro data t present poked
    obtain rfl := Host.Outcome.next.inj ((exec_pokeAttr_of_present present tx ty data s).symm.trans poked)
    exact ⟨_, exec_peekAttr_of_present present tx ty _, by simp [State.attrAt_setAttr]⟩
  · intro w opcode
    have operands : decodeOperands w = decodeCR w .peekAttr := by simp [decodeOperands, opcode]
    rw [decode_eq_none_iff_of_layer operands fun _ => rfl, not_and_or, or_assoc]

/-! ### The render command -/

theorem pixelAt_of_fb_eq {s t : State} (h : t.fb = s.fb) (x y : Byte) : t.pixelAt x y = s.pixelAt x y := by
  rw [State.pixelAt, h, State.pixelAt]

/-- Settles O30: a rendered pixel is the arbiter's answer for `NUM_LAYERS` hits; the second render composes its frame
from the same tables. -/
theorem renderFrameWritesEveryPixel : Obligations.RenderFrameWritesEveryPixel := by
  unfold Obligations.RenderFrameWritesEveryPixel
  refine ⟨fun s => ?_, by decide, fun w opcode => ?_⟩
  · have frame : OnlyChanges [.framebuffer, .responses] s ((s.setFrame s.renderedFrame).respond .ok) :=
      (onlyChanges_setFrame s _).respond .ok
    refine ⟨(s.setFrame s.renderedFrame).respond .ok, rfl, ?_, rfl, frame, _, rfl, pixelAt_of_fb_eq ?_⟩
    · intro x y visible
      rw [State.pixelAt_respond, pixelAt_setFrame_renderedFrame s x y visible, State.topIndex, getTopPixel_layerHits,
        State.shownColor]
    · exact renderedFrame_of_same fun p _ table => frame p (by simp_all)
  · have operands : decodeOperands w = decodeN w .renderFrame := by simp [decodeOperands, opcode]
    exact decode_eq_none_iff_of_zero operands rfl

end Sys2Proof.Machine
end

section
/-! SUPPORT. The decoder and the encoder are inverse (R97 to R100): a word is put together from its fields, and the
operand fields of a word give a command exactly when the word is the command's. -/

namespace Sys2Proof

/-! ### A word is put together from its fields -/

theorem place_field_whole (w : CmdWord) : place 0 (field w 0 48) = w := by
  simp [place, field]

theorem place_zero (lo n : Nat) : place lo 0#n = 0#48 := by simp [place]

/-- A field put back at its place is its high part and its low part, each put back at its own. -/
theorem place_field_split (w : CmdWord) (lo m n : Nat) :
    place lo (field w lo (m + n)) = place (lo + m) (field w (lo + m) n) ||| place lo (field w lo m) := by
  ext i hi
  by_cases below : i < lo
  · have belowHigh : i < lo + m := by omega
    simp [place, field, below, belowHigh]
  by_cases low : i < lo + m
  · have inLow : i - lo < m := by omega
    have inWhole : i - lo < m + n := by omega
    simp [place, field, below, low, inLow, inWhole]
  · have inHigh : i - (lo + m) < n ↔ i - lo < m + n := by omega
    have notLow : ¬ i - lo < m := by omega
    have bit : lo + m + (i - (lo + m)) = lo + (i - lo) := by omega
    simp [place, field, below, low, inHigh, notLow, bit]

/-! ### The formats (R97)

A command of the format, given by its constructor `mk` and its opcode, decodes only from its own word: the fields put
back at their places are the word. -/

section
variable {w : CmdWord} {i : Instr} {op : Nat} (opcode : (opcodeField w).toNat = op)
include opcode

theorem field_opcode_eq_ofNat : field w 40 8 = BitVec.ofNat 8 op := by
  rw [← opcode, BitVec.ofNat_toNat, BitVec.setWidth_eq, opcodeField]

theorem encode_of_decodeN {j : Instr} (word : encode j = place 40 (BitVec.ofNat 8 op)) (h : decodeN w j = some i) :
    encode i = w := by
  obtain ⟨zero, ⟨⟩⟩ := Option.ite_none_right_eq_some.mp h
  have whole := place_field_whole w
  rw [place_field_split w 0 40 8, field_opcode_eq_ofNat opcode, zero, place_zero, BitVec.or_zero] at whole
  exact word.trans whole

theorem encode_of_decodeC {mk : LayerId → BitVec 5 → BitVec 5 → Byte → Instr}
    (word : ∀ layer tx ty data, encode (mk layer tx ty data) =
      place 40 (BitVec.ofNat 8 op) ||| place 18 (layerBits layer) ||| place 13 ty ||| place 8 tx ||| place 0 data)
    (h : decodeC w mk = some i) : encode i = w := by
  obtain ⟨zero, operands⟩ := Option.ite_none_right_eq_some.mp h
  obtain ⟨layer, named, rfl⟩ := Option.map_eq_some_iff.mp operands
  have whole := place_field_whole w
  rw [place_field_split w 0 8 40, place_field_split w 8 5 35, place_field_split w 13 5 30,
    place_field_split w 18 2 28, place_field_split w 20 20 8, field_opcode_eq_ofNat opcode, zero, place_zero,
    BitVec.or_zero, ← layerBits_of_layerOfBits named] at whole
  exact (word _ _ _ _).trans whole

theorem encode_of_decodeCR {mk : LayerId → BitVec 5 → BitVec 5 → Instr}
    (word : ∀ layer tx ty, encode (mk layer tx ty) =
      place 40 (BitVec.ofNat 8 op) ||| place 18 (layerBits layer) ||| place 13 ty ||| place 8 tx)
    (h : decodeCR w mk = some i) : encode i = w := by
  obtain ⟨⟨zeroHigh, zeroLow⟩, operands⟩ := Option.ite_none_right_eq_some.mp h
  obtain ⟨layer, named, rfl⟩ := Option.map_eq_some_iff.mp operands
  have whole := place_field_whole w
  rw [place_field_split w 0 8 40, place_field_split w 8 5 35, place_field_split w 13 5 30,
    place_field_split w 18 2 28, place_field_split w 20 20 8, field_opcode_eq_ofNat opcode, zeroHigh, zeroLow,
    place_zero, place_zero, BitVec.or_zero, BitVec.or_zero, ← layerBits_of_layerOfBits named] at whole
  exact (word _ _ _).trans whole

theorem encode_of_decodeS {mk : LayerId → Byte → Byte → Instr}
    (word : ∀ layer x y, encode (mk layer x y) =
      place 40 (BitVec.ofNat 8 op) ||| place 16 (layerBits layer) ||| place 8 x ||| place 0 y)
    (h : decodeS w mk = some i) : encode i = w := by
  obtain ⟨zero, operands⟩ := Option.ite_none_right_eq_some.mp h
  obtain ⟨layer, named, rfl⟩ := Option.map_eq_some_iff.mp operands
  have whole := place_field_whole w
  rw [place_field_split w 0 8 40, place_field_split w 8 8 32, place_field_split w 16 2 30,
    place_field_split w 18 22 8, field_opcode_eq_ofNat opcode, zero, place_zero, BitVec.or_zero,
    ← layerBits_of_layerOfBits named] at whole
  exact (word _ _ _).trans whole

theorem encode_of_decodeF {mk : LayerId → Bool → Instr}
    (word : ∀ layer flag, encode (mk layer flag) =
      place 40 (BitVec.ofNat 8 op) ||| place 8 (layerBits layer) ||| place 0 (BitVec.ofBool flag))
    (h : decodeF w mk = some i) : encode i = w := by
  obtain ⟨⟨zeroHigh, zeroLow⟩, operands⟩ := Option.ite_none_right_eq_some.mp h
  obtain ⟨layer, named, rfl⟩ := Option.map_eq_some_iff.mp operands
  have whole := place_field_whole w
  rw [place_field_split w 0 1 47, place_field_split w 1 7 40, place_field_split w 8 2 38, place_field_split w 10 30 8,
    field_opcode_eq_ofNat opcode, zeroHigh, zeroLow, place_zero, place_zero, BitVec.or_zero, BitVec.or_zero,
    ← layerBits_of_layerOfBits named, ← ofBool_flagOfBit (field w 0 1)] at whole
  exact (word _ _).trans whole

theorem encode_of_decodeO {mk : Byte → Byte → Byte → Byte → Byte → Instr}
    (word : ∀ idx x y tile attr, encode (mk idx x y tile attr) =
      place 40 (BitVec.ofNat 8 op) ||| place 32 idx ||| place 24 x ||| place 16 y ||| place 8 tile ||| place 0 attr)
    (h : decodeO w mk = some i) : encode i = w := by
  obtain rfl := Option.some.inj h
  have whole := place_field_whole w
  rw [place_field_split w 0 8 40, place_field_split w 8 8 32, place_field_split w 16 8 24,
    place_field_split w 24 8 16, place_field_split w 32 8 8, field_opcode_eq_ofNat opcode] at whole
  exact (word _ _ _ _ _).trans whole

theorem encode_of_decodeOI {mk : Byte → Instr}
    (word : ∀ idx, encode (mk idx) =
      place 40 (BitVec.ofNat 8 op) ||| place 32 idx)
    (h : decodeOI w mk = some i) : encode i = w := by
  obtain ⟨zero, ⟨⟩⟩ := Option.ite_none_right_eq_some.mp h
  have whole := place_field_whole w
  rw [place_field_split w 0 32 16, place_field_split w 32 8 8, field_opcode_eq_ofNat opcode, zero, place_zero,
    BitVec.or_zero] at whole
  exact (word _).trans whole

theorem encode_of_decodeP {mk : BitVec 6 → Byte → Byte → Byte → Instr}
    (word : ∀ pidx r g b, encode (mk pidx r g b) =
      place 40 (BitVec.ofNat 8 op) ||| place 24 pidx ||| place 16 r ||| place 8 g ||| place 0 b)
    (h : decodeP w mk = some i) : encode i = w := by
  obtain ⟨zero, ⟨⟩⟩ := Option.ite_none_right_eq_some.mp h
  have whole := place_field_whole w
  rw [place_field_split w 0 8 40, place_field_split w 8 8 32, place_field_split w 16 8 24,
    place_field_split w 24 6 18, place_field_split w 30 10 8, field_opcode_eq_ofNat opcode, zero, place_zero,
    BitVec.or_zero] at whole
  exact (word _ _ _ _).trans whole

theorem encode_of_decodeT {mk : PlaneId → Byte → BitVec 3 → Byte → Instr}
    (word : ∀ plane tile row data, encode (mk plane tile row data) =
      place 40 (BitVec.ofNat 8 op) ||| place 19 (planeBits plane) ||| place 11 tile ||| place 8 row ||| place 0 data)
    (h : decodeT w mk = some i) : encode i = w := by
  obtain ⟨zero, operands⟩ := Option.ite_none_right_eq_some.mp h
  obtain ⟨plane, named, rfl⟩ := Option.map_eq_some_iff.mp operands
  have whole := place_field_whole w
  rw [place_field_split w 0 8 40, place_field_split w 8 3 37, place_field_split w 11 8 29,
    place_field_split w 19 2 27, place_field_split w 21 19 8, field_opcode_eq_ofNat opcode, zero, place_zero,
    BitVec.or_zero, ← planeBits_of_planeOfBits named] at whole
  exact (word _ _ _ _).trans whole

theorem encode_of_decodeB {mk : BitVec 6 → Instr}
    (word : ∀ pidx, encode (mk pidx) =
      place 40 (BitVec.ofNat 8 op) ||| place 0 pidx)
    (h : decodeB w mk = some i) : encode i = w := by
  obtain ⟨zero, ⟨⟩⟩ := Option.ite_none_right_eq_some.mp h
  have whole := place_field_whole w
  rw [place_field_split w 0 6 42, place_field_split w 6 34 8, field_opcode_eq_ofNat opcode, zero, place_zero,
    BitVec.or_zero] at whole
  exact (word _).trans whole

theorem encode_of_decodeG {mk : Bool → Instr}
    (word : ∀ flag, encode (mk flag) =
      place 40 (BitVec.ofNat 8 op) ||| place 0 (BitVec.ofBool flag))
    (h : decodeG w mk = some i) : encode i = w := by
  obtain ⟨zero, ⟨⟩⟩ := Option.ite_none_right_eq_some.mp h
  have whole := place_field_whole w
  rw [place_field_split w 0 1 47, place_field_split w 1 39 8, field_opcode_eq_ofNat opcode, zero, place_zero,
    BitVec.or_zero, ← ofBool_flagOfBit (field w 0 1)] at whole
  exact (word _).trans whole

theorem encode_of_decodeX {mk : Byte → Byte → Instr}
    (word : ∀ x y, encode (mk x y) =
      place 40 (BitVec.ofNat 8 op) ||| place 8 x ||| place 0 y)
    (h : decodeX w mk = some i) : encode i = w := by
  obtain ⟨zero, ⟨⟩⟩ := Option.ite_none_right_eq_some.mp h
  have whole := place_field_whole w
  rw [place_field_split w 0 8 40, place_field_split w 8 8 32, place_field_split w 16 24 8,
    field_opcode_eq_ofNat opcode, zero, place_zero, BitVec.or_zero] at whole
  exact (word _ _).trans whole

end

/-! ### The decoder and the encoder -/

/-- What the operand fields of a word give is the command whose word it is: by opcode, then by the opcode's format. -/
theorem encode_of_decodeOperands {w : CmdWord} {i : Instr} (h : decodeOperands w = some i) : encode i = w := by
  unfold decodeOperands at h
  split at h
  · next opcode => exact encode_of_decodeC opcode (fun _ _ _ _ => rfl) h
  · next opcode => exact encode_of_decodeC opcode (fun _ _ _ _ => rfl) h
  · next opcode => exact encode_of_decodeS opcode (fun _ _ _ => rfl) h
  · next opcode => exact encode_of_decodeF opcode (fun _ _ => rfl) h
  · next opcode => exact encode_of_decodeO opcode (fun _ _ _ _ _ => rfl) h
  · next opcode => exact encode_of_decodeOI opcode (fun _ => rfl) h
  · next opcode => exact encode_of_decodeP opcode (fun _ _ _ _ => rfl) h
  · next opcode => exact encode_of_decodeT opcode (fun _ _ _ _ => rfl) h
  · next opcode => exact encode_of_decodeB opcode (fun _ => rfl) h
  · next opcode => exact encode_of_decodeG opcode (fun _ => rfl) h
  · next opcode => exact encode_of_decodeCR opcode (fun _ _ _ => rfl) h
  · next opcode => exact encode_of_decodeCR opcode (fun _ _ _ => rfl) h
  · next opcode => exact encode_of_decodeX opcode (fun _ _ => rfl) h
  · next opcode => exact encode_of_decodeX opcode (fun _ _ => rfl) h
  · next opcode => exact encode_of_decodeN opcode rfl h
  · cases h

/-- Read back, the fields of a command's word are its operands: the word of each format is built of placed fields. -/
theorem decodeOperands_encode (i : Instr) : decodeOperands (encode i) = some i := by
  cases i with
  | pokeTile | pokeAttr =>
    simp [encode, decodeOperands, opcodeField, field_or, field_place_same, field_place_apart, decodeC,
      layerOfBits_layerBits]
  | peekTile | peekAttr =>
    simp [encode, decodeOperands, opcodeField, field_or, field_place_same, field_place_apart, decodeCR,
      layerOfBits_layerBits]
  | setScroll =>
    simp [encode, decodeOperands, opcodeField, field_or, field_place_same, field_place_apart, decodeS,
      layerOfBits_layerBits]
  | setHidden =>
    simp [encode, decodeOperands, opcodeField, field_or, field_place_same, field_place_apart, decodeF,
      layerOfBits_layerBits, flagOfBit_ofBool]
  | setSprite =>
    simp [encode, decodeOperands, opcodeField, field_or, field_place_same, field_place_apart, decodeO]
  | hideSprite =>
    simp [encode, decodeOperands, opcodeField, field_or, field_place_same, field_place_apart, decodeOI]
  | setPalette =>
    simp [encode, decodeOperands, opcodeField, field_or, field_place_same, field_place_apart, decodeP]
  | setTileRow =>
    simp [encode, decodeOperands, opcodeField, field_or, field_place_same, field_place_apart, decodeT,
      planeOfBits_planeBits]
  | setBgcolor =>
    simp [encode, decodeOperands, opcodeField, field_or, field_place_same, field_place_apart, decodeB]
  | setHideSprites =>
    simp [encode, decodeOperands, opcodeField, field_or, field_place_same, field_place_apart, decodeG,
      flagOfBit_ofBool]
  | readPixel | readPixelArgb =>
    simp [encode, decodeOperands, opcodeField, field_or, field_place_same, field_place_apart, decodeX]
  | renderFrame =>
    simp [encode, decodeOperands, opcodeField, field_place_same, field_place_apart, decodeN]

end Sys2Proof

namespace Sys2Proof.Machine

open Sys2Proof

/-- Settles O1: the word's fields give the command back, and it is well-formed. -/
theorem encodedCommandDecodesBack : Obligations.EncodedCommandDecodesBack := by
  unfold Obligations.EncodedCommandDecodesBack
  intro i legal
  exact (decode_eq_some_iff (encode i) i).mpr ⟨decodeOperands_encode i, legal⟩

/-- Settles O2: the fields of the word, put back at their places, are the whole word. -/
theorem decodedWordIsItsEncoding : Obligations.DecodedWordIsItsEncoding := by
  unfold Obligations.DecodedWordIsItsEncoding
  intro w i decodes
  obtain ⟨operands, legal⟩ := (decode_eq_some_iff w i).mp decodes
  exact ⟨legal, encode_of_decodeOperands operands⟩

/-- Settles O3: ten closed words, each evaluated by the decoder. -/
theorem specWordsDecodeToTheirCommands : Obligations.SpecWordsDecodeToTheirCommands := by
  unfold Obligations.SpecWordsDecodeToTheirCommands
  decide

end Sys2Proof.Machine
end

section
/-! SUPPORT. Which words are commands (R98, R99): the decoder's conditions, opcode by opcode, against the five reserved
cases, and these against the rows of the opcode table. -/

namespace Sys2Proof

/-! ### Words masked by must-be-zero bits -/

theorem field_and (v w : CmdWord) (lo len : Nat) : field (v &&& w) lo len = field v lo len &&& field w lo len := by
  ext i hi
  simp [field]

/-- Bits that must be zero in two ranges are zero when those of each range are. -/
theorem and_or_eq_zero_iff (w m n : CmdWord) : w &&& (m ||| n) = 0#48 ↔ w &&& m = 0#48 ∧ w &&& n = 0#48 := by
  rw [BitVec.and_or_distrib_left, BitVec.or_eq_zero_iff]

theorem and_maskCR_eq_zero_iff (w : CmdWord) :
    w &&& 0x00FFFFF000FF#48 = 0#48 ↔ field w 20 20 = 0#20 ∧ field w 0 8 = 0#8 := by
  rw [← and_mask_eq_zero_iff w 0x00FFFFF00000#48 20 20 (by decide) (by decide),
    ← and_mask_eq_zero_iff w 0x0000000000FF#48 0 8 (by decide) (by decide), ← and_or_eq_zero_iff]
  rfl

theorem and_maskF_eq_zero_iff (w : CmdWord) :
    w &&& 0x00FFFFFFFCFE#48 = 0#48 ↔ field w 10 30 = 0#30 ∧ field w 1 7 = 0#7 := by
  rw [← and_mask_eq_zero_iff w 0x00FFFFFFFC00#48 10 30 (by decide) (by decide),
    ← and_mask_eq_zero_iff w 0x0000000000FE#48 1 7 (by decide) (by decide), ← and_or_eq_zero_iff]
  rfl

/-! ### Refused words of the formats with a plane or a position -/

theorem planeOfBits_eq_none_iff (v : BitVec 2) : planeOfBits v = none ↔ v = 3#2 := by
  revert v
  decide

/-- In the format with a `plane` field, refused are the words with a must-be-zero bit set or plane 3 (R99 case 4). -/
theorem decode_eq_none_iff_of_plane {w : CmdWord} {zero : Prop} [Decidable zero] {v : BitVec 2} {mk : PlaneId → Instr}
    (operands : decodeOperands w = if zero then (planeOfBits v).map mk else none)
    (legal : ∀ p, (mk p).wellFormed = true) : decode w = none ↔ ¬ zero ∨ v = 3#2 := by
  rw [decode_eq_none_iff, operands, ← planeOfBits_eq_none_iff]
  by_cases h : zero
  · simp [h, legal, Option.eq_none_iff_forall_ne_some]
  · simp [h]

/-- In the format with a position, refused are the words with a must-be-zero bit set or a position off the screen (R99
case 5). -/
theorem decode_eq_none_iff_of_position {w : CmdWord} {mk : Byte → Byte → Instr}
    (operands : decodeOperands w = decodeX w mk) (legal : ∀ x y, (mk x y).wellFormed = onScreen x y) :
    decode w = none ↔ field w 16 24 ≠ 0#24 ∨
      Config.screenWidth ≤ (field w 8 8).toNat ∨ Config.screenHeight ≤ (field w 0 8).toNat := by
  rw [decode_eq_none_iff, operands, decodeX]
  by_cases h : field w 16 24 = 0#24
  · simp only [h, if_true, Option.some.injEq, forall_eq', legal, onScreen]
    simp [imp_iff_not_or]
  · simp [h]

end Sys2Proof

namespace Sys2Proof.Machine

open Sys2Proof

/-! ### The five reserved cases -/

theorem opcodeField_encode_mem (i : Instr) : opcodeField (encode i) ∈ assignedOpcodes := by
  cases i <;> simp [encode, opcodeField, field_or, field_place_same, field_place_apart, assignedOpcodes]

/-- A word with an unassigned opcode is no command's word (R99 case 1). -/
theorem decode_eq_none_of_unassigned {w : CmdWord} (unassigned : opcodeField w ∉ assignedOpcodes) :
    decode w = none := by
  rw [decode_eq_none_iff]
  intro i operands
  obtain rfl := encode_of_decodeOperands operands
  exact absurd (opcodeField_encode_mem i) unassigned

/-- For each assigned opcode, the must-be-zero bits and the value conditions of its format are the reserved cases. -/
theorem decode_eq_none_iff_reservedWord (w : CmdWord) : decode w = none ↔ ReservedWord w := by
  by_cases assigned : opcodeField w ∈ assignedOpcodes
  case neg => exact iff_of_true (decode_eq_none_of_unassigned assigned) (.inl assigned)
  simp only [assignedOpcodes, List.mem_cons, List.not_mem_nil, or_false] at assigned
  obtain op | op | op | op | op | op | op | op | op | op | op | op | op | op | op := assigned
  · have operands : decodeOperands w = decodeC w .pokeTile := by simp [decodeOperands, op]
    have zero := and_mask_eq_zero_iff w 0x00FFFFF00000#48 20 20 (by decide) (by decide)
    rw [decode_eq_none_iff_of_layer operands fun _ => rfl]
    simp [ReservedWord, op, assignedOpcodes, mustBeZero, layerField, zero]
  · have operands : decodeOperands w = decodeC w .pokeAttr := by simp [decodeOperands, op]
    have zero := and_mask_eq_zero_iff w 0x00FFFFF00000#48 20 20 (by decide) (by decide)
    rw [decode_eq_none_iff_of_layer operands fun _ => rfl]
    simp [ReservedWord, op, assignedOpcodes, mustBeZero, layerField, zero]
  · have operands : decodeOperands w = decodeS w .setScroll := by simp [decodeOperands, op]
    have zero := and_mask_eq_zero_iff w 0x00FFFFFC0000#48 18 22 (by decide) (by decide)
    rw [decode_eq_none_iff_of_layer operands fun _ => rfl]
    simp [ReservedWord, op, assignedOpcodes, mustBeZero, layerField, zero]
  · have operands : decodeOperands w = decodeF w .setHidden := by simp [decodeOperands, op]
    have zero := and_maskF_eq_zero_iff w
    rw [decode_eq_none_iff_of_layer operands fun _ => rfl]
    simp [ReservedWord, op, assignedOpcodes, mustBeZero, layerField, zero]
  · have operands : decodeOperands w = decodeO w .setSprite := by simp [decodeOperands, op]
    simp [decode_eq_none_iff, operands, decodeO, Instr.wellFormed, ReservedWord, op, assignedOpcodes, mustBeZero,
      layerField]
  · have operands : decodeOperands w = decodeOI w .hideSprite := by simp [decodeOperands, op]
    have zero := and_mask_eq_zero_iff w 0x0000FFFFFFFF#48 0 32 (by decide) (by decide)
    rw [decode_eq_none_iff_of_zero operands rfl]
    simp [ReservedWord, op, assignedOpcodes, mustBeZero, layerField, zero]
  · have operands : decodeOperands w = decodeP w .setPalette := by simp [decodeOperands, op]
    have zero := and_mask_eq_zero_iff w 0x00FFC0000000#48 30 10 (by decide) (by decide)
    rw [decode_eq_none_iff_of_zero operands rfl]
    simp [ReservedWord, op, assignedOpcodes, mustBeZero, layerField, zero]
  · have operands : decodeOperands w = decodeT w .setTileRow := by simp [decodeOperands, op]
    have zero := and_mask_eq_zero_iff w 0x00FFFFE00000#48 21 19 (by decide) (by decide)
    rw [decode_eq_none_iff_of_plane operands fun _ => rfl]
    simp [ReservedWord, op, assignedOpcodes, mustBeZero, layerField, zero]
  · have operands : decodeOperands w = decodeB w .setBgcolor := by simp [decodeOperands, op]
    have zero := and_mask_eq_zero_iff w 0x00FFFFFFFFC0#48 6 34 (by decide) (by decide)
    rw [decode_eq_none_iff_of_zero operands rfl]
    simp [ReservedWord, op, assignedOpcodes, mustBeZero, layerField, zero]
  · have operands : decodeOperands w = decodeG w .setHideSprites := by simp [decodeOperands, op]
    have zero := and_mask_eq_zero_iff w 0x00FFFFFFFFFE#48 1 39 (by decide) (by decide)
    rw [decode_eq_none_iff_of_zero operands rfl]
    simp [ReservedWord, op, assignedOpcodes, mustBeZero, layerField, zero]
  · have operands : decodeOperands w = decodeCR w .peekTile := by simp [decodeOperands, op]
    have zero := and_maskCR_eq_zero_iff w
    rw [decode_eq_none_iff_of_layer operands fun _ => rfl]
    simp [ReservedWord, op, assignedOpcodes, mustBeZero, layerField, zero]
  · have operands : decodeOperands w = decodeCR w .peekAttr := by simp [decodeOperands, op]
    have zero := and_maskCR_eq_zero_iff w
    rw [decode_eq_none_iff_of_layer operands fun _ => rfl]
    simp [ReservedWord, op, assignedOpcodes, mustBeZero, layerField, zero]
  · have operands : decodeOperands w = decodeX w .readPixel := by simp [decodeOperands, op]
    have zero := and_mask_eq_zero_iff w 0x00FFFFFF0000#48 16 24 (by decide) (by decide)
    rw [decode_eq_none_iff_of_position operands fun _ _ => rfl]
    simp [ReservedWord, op, assignedOpcodes, mustBeZero, layerField, zero]
  · have operands : decodeOperands w = decodeX w .readPixelArgb := by simp [decodeOperands, op]
    have zero := and_mask_eq_zero_iff w 0x00FFFFFF0000#48 16 24 (by decide) (by decide)
    rw [decode_eq_none_iff_of_position operands fun _ _ => rfl]
    simp [ReservedWord, op, assignedOpcodes, mustBeZero, layerField, zero]
  · have operands : decodeOperands w = decodeN w .renderFrame := by simp [decodeOperands, op]
    have zero := and_mask_eq_zero_iff w 0x00FFFFFFFFFF#48 0 40 (by decide) (by decide)
    rw [decode_eq_none_iff_of_zero operands rfl]
    simp [ReservedWord, op, assignedOpcodes, mustBeZero, layerField, zero]

theorem not_reservedWord_iff (w : CmdWord) : ¬ ReservedWord w ↔
    opcodeField w ∈ assignedOpcodes ∧ w &&& mustBeZero (opcodeField w) = 0#48 ∧
      (∀ v, layerField w = some v → v.toNat < Config.numLayers) ∧
      (opcodeField w = 0x08#8 → field w 19 2 ≠ 3#2) ∧
      (opcodeField w = 0x12#8 ∨ opcodeField w = 0x13#8 →
        (field w 8 8).toNat < Config.screenWidth ∧ (field w 0 8).toNat < Config.screenHeight) := by
  simp only [ReservedWord, not_or, not_and, not_exists, not_not, not_le, ne_eq]

theorem encode_and_tableMask (i : Instr) : encode i &&& tableMask i = tableMatch i := by
  cases i with
  | pokeTile => exact Laws.TableRow.pokeTile ..
  | pokeAttr => exact Laws.TableRow.pokeAttr ..
  | setScroll => exact Laws.TableRow.setScroll ..
  | setHidden => exact Laws.TableRow.setHidden ..
  | setSprite => exact Laws.TableRow.setSprite ..
  | hideSprite => exact Laws.TableRow.hideSprite ..
  | setPalette => exact Laws.TableRow.setPalette ..
  | setTileRow => exact Laws.TableRow.setTileRow ..
  | setBgcolor => exact Laws.TableRow.setBgcolor ..
  | setHideSprites => exact Laws.TableRow.setHideSprites ..
  | peekTile => exact Laws.TableRow.peekTile ..
  | peekAttr => exact Laws.TableRow.peekAttr ..
  | readPixel => exact Laws.TableRow.readPixel ..
  | readPixelArgb => exact Laws.TableRow.readPixelArgb ..
  | renderFrame => exact Laws.TableRow.renderFrame

/-- A row of the opcode table has the whole opcode and the must-be-zero bits of its format in its mask. -/
theorem tableMask_bits (i : Instr) :
    opcodeField (tableMask i) = BitVec.allOnes 8 ∧
      mustBeZero (opcodeField (tableMatch i)) = tableMask i &&& 0x00FFFFFFFFFF#48 ∧
      tableMatch i &&& 0x00FFFFFFFFFF#48 = 0#48 := by
  cases i <;> simp only [tableMask, tableMatch] <;> decide

theorem opcodeField_of_row {w : CmdWord} {i : Instr} (row : w &&& tableMask i = tableMatch i) :
    opcodeField w = opcodeField (tableMatch i) := by
  obtain ⟨ones, -⟩ := tableMask_bits i
  rw [← row]
  unfold opcodeField at ones ⊢
  rw [field_and, ones, BitVec.and_allOnes]

/-- A word that matches a row has an assigned opcode, that of the row's command, and no must-be-zero bit set. -/
theorem assigned_and_zero_of_row {w : CmdWord} {i : Instr} (row : w &&& tableMask i = tableMatch i) :
    opcodeField w ∈ assignedOpcodes ∧ w &&& mustBeZero (opcodeField w) = 0#48 := by
  obtain ⟨-, bits, zero⟩ := tableMask_bits i
  constructor
  · rw [opcodeField_of_row row, ← opcodeField_of_row (encode_and_tableMask i)]
    exact opcodeField_encode_mem i
  · rw [opcodeField_of_row row, bits, ← BitVec.and_assoc, row, zero]

/-- Settles O4: for each assigned opcode, by its format. -/
theorem reservedWordsAreThoseOfTheFiveCases : Obligations.ReservedWordsAreThoseOfTheFiveCases := by
  unfold Obligations.ReservedWordsAreThoseOfTheFiveCases
  exact decode_eq_none_iff_reservedWord

/-- Settles O5: a command's word matches its row; a word that matches a row is reserved only by its values. -/
theorem commandWordsAreTheTableRows : Obligations.CommandWordsAreTheTableRows := by
  unfold Obligations.CommandWordsAreTheTableRows
  intro w
  constructor
  · rintro ⟨i, decodes⟩
    have legal : ¬ ReservedWord w := by
      rw [← decode_eq_none_iff_reservedWord, decodes]
      exact Option.some_ne_none i
    obtain ⟨-, -, values⟩ := (not_reservedWord_iff w).mp legal
    obtain rfl := encode_of_decodeOperands ((decode_eq_some_iff w i).mp decodes).1
    exact ⟨i, encode_and_tableMask i, values⟩
  · rintro ⟨i, row, values⟩
    obtain ⟨assigned, zero⟩ := assigned_and_zero_of_row row
    have legal : ¬ ReservedWord w := (not_reservedWord_iff w).mpr ⟨assigned, zero, values⟩
    exact Option.ne_none_iff_exists'.mp (mt (decode_eq_none_iff_reservedWord w).mp legal)

/-- Settles O6: by the two values of the parameter; a layer's number is its `layer` field. -/
theorem layersBelowNumLayersArePresent : Obligations.LayersBelowNumLayersArePresent := by
  unfold Obligations.LayersBelowNumLayersArePresent
  refine ⟨numLayers_cases, fun l => ?_⟩
  have number : (layerBits l).toNat = l.number := by cases l <;> rfl
  rw [number]
  exact l.present_iff

end Sys2Proof.Machine
end

section
/-! SUPPORT. What a command answers, said once: its effect, then its response; and that neither the port nor a second
run changes either (R66, R211). -/

namespace Sys2Proof.Machine

open Sys2Proof

/-! ### The effect and the response of a command -/

/-- The state a legal command leads to, before it responds: "State written" of R212 to R226. -/
def effect : Instr → State → State
  | .pokeTile layer tx ty data, s => s.setMap layer (cellAddr tx ty) data
  | .pokeAttr layer tx ty data, s => s.setAttr layer (cellAddr tx ty) data
  | .setScroll layer x y, s => s.setScroll layer x y
  | .setHidden layer flag, s => s.setHiddenFlag layer flag
  | .setSprite idx x y tile attr, s => s.setSprite idx { x := x, y := y, tile := tile, attr := attr }
  | .hideSprite idx, s => s.setSprite idx { s.spriteAt idx with y := BitVec.ofNat 8 Config.screenHeight }
  | .setPalette pidx r g b, s => s.setPal pidx { r := r, g := g, b := b }
  | .setTileRow plane tile row data, s => s.setTile plane tile row data
  | .setBgcolor pidx, s => s.setBgcolor pidx
  | .setHideSprites flag, s => s.setHideSpritesFlag flag
  | .peekTile _ _ _, s => s
  | .peekAttr _ _ _, s => s
  | .readPixel _ _, s => s
  | .readPixelArgb _ _, s => s
  | .renderFrame, s => s.setFrame s.renderedFrame

/-- The value a read command responds with; none for a command that responds `OK`. -/
def readValue : Instr → State → Option (BitVec 32)
  | .peekTile layer tx ty, s => some ((s.mapAt layer (cellAddr tx ty)).setWidth 32)
  | .peekAttr layer tx ty, s => some ((s.attrAt layer (cellAddr tx ty)).setWidth 32)
  | .readPixel x y, s => some ((colorBits (s.pixelAt x y)).setWidth 32)
  | .readPixelArgb x y, s => some (toArgb (s.pixelAt x y))
  | _, _ => none

/-- The response of a legal command: `OK(v)` for a read command, else `OK` (R211). -/
def answer (i : Instr) (s : State) : Response := (readValue i s).elim .ok .okValue

/-- Every command, where it is legal, has its effect and then responds; where it is not, it is refused. -/
theorem exec_eq (i : Instr) (s : State) :
    exec i s = performIf i.wellFormed ((effect i s).respond (answer i s)) s := by
  cases i <;> rfl

theorem exec_of_wellFormed {i : Instr} (legal : i.wellFormed = true) (s : State) :
    exec i s = .next ((effect i s).respond (answer i s)) := by
  rw [exec_eq, legal, performIf_true]

theorem exec_of_not_wellFormed {i : Instr} (illegal : i.wellFormed = false) (s : State) :
    exec i s = .next s.reject := by
  rw [exec_eq, illegal, performIf_false]

/-- The response is of the command's kind (R211). -/
theorem answer_cases (i : Instr) (s : State) :
    if isReadCommand i then ∃ v, answer i s = .okValue v else answer i s = .ok := by
  cases i <;> simp [isReadCommand, answer, readValue]

theorem answer_ne_reject (i : Instr) (s : State) : answer i s ≠ .reject := by
  cases i <;> simp [answer, readValue]

/-! ### Repeating a command -/

/-- A change of framebuffer and port alone cannot show in a frame. -/
theorem renderedFrame_of_onlyChanges {ps : List Piece} {s t : State} (h : OnlyChanges ps s t)
    (hps : ps ⊆ [Piece.framebuffer, .commands, .responses]) : t.renderedFrame = s.renderedFrame :=
  renderedFrame_of_same fun p _ table => h p fun hp => table (hps hp)

/-- No effect reads or writes the responses. -/
theorem effect_respond (i : Instr) (s : State) (r : Response) : effect i (s.respond r) = (effect i s).respond r := by
  cases i with
  | renderFrame =>
    have frame := renderedFrame_of_onlyChanges ((onlyChanges_refl s).respond r) (by simp)
    simp only [effect, frame]
    rfl
  | pokeTile l => cases l <;> rfl
  | pokeAttr l => cases l <;> rfl
  | setScroll l => cases l <;> rfl
  | setHidden l => cases l <;> rfl
  | setTileRow p => cases p <;> rfl
  | _ => rfl

theorem answer_respond (i : Instr) (s : State) (r : Response) : answer i (s.respond r) = answer i s := by
  cases i <;> simp [answer, readValue]

/-- No command changes what it responds with. -/
theorem answer_effect (i : Instr) (s : State) : answer i (effect i s) = answer i s := by
  cases i <;> simp [answer, readValue, effect]

theorem setLayer_setLayer (s : State) (l : LayerId) (b c : Layer) :
    (s.setLayer l b).setLayer l c = s.setLayer l c := by
  cases l <;> rfl

theorem setPlane_setPlane (s : State) (p : PlaneId) (m n : List Host.Cell) :
    (s.setPlane p m).setPlane p n = s.setPlane p n := by
  cases p <;> rfl

theorem setSprite_setSprite (s : State) (i : Byte) (e : Sprite) :
    (s.setSprite i e).setSprite i e = s.setSprite i e := by
  simp [State.setSprite, Memory_write_write]

/-- A command finds its own effect as it left it: a second write of the same value changes nothing, and a second render
composes the same frame. -/
theorem effect_effect (i : Instr) (s : State) : effect i (effect i s) = effect i s := by
  cases i with
  | pokeTile l tx ty v => simp [effect, State.setMap, setLayer_setLayer, Memory_write_write]
  | pokeAttr l tx ty v => simp [effect, State.setAttr, setLayer_setLayer, Memory_write_write]
  | setScroll l x y => simp [effect, State.setScroll, setLayer_setLayer]
  | setHidden l flag => simp [effect, State.setHiddenFlag, setLayer_setLayer]
  | setTileRow q tile row v => simp [effect, State.setTile, setPlane_setPlane, Memory_write_write]
  | setSprite i x y tile attr => exact setSprite_setSprite s i _
  | hideSprite i => simp [effect, State.spriteAt_setSprite, setSprite_setSprite]
  | setPalette i r g b => simp [effect, State.setPal, Memory_write_write]
  | renderFrame =>
    have frame := renderedFrame_of_onlyChanges (onlyChanges_setFrame s s.renderedFrame) (by simp)
    simp only [effect, frame]
    rfl
  | _ => rfl

end Sys2Proof.Machine
end

section
/-! SUPPORT. The step and the command port (R210, R211, R251), and the rules every command keeps (R22, R23, R66). -/

namespace Sys2Proof.Machine

open Sys2Proof

/-! ### The three cases of a step -/

theorem step_of_idle {s : State} (idle : s.commands = []) : step s = .next s := by
  simp [step, State.takeCommand_nil idle]

theorem step_of_decode {s : State} {w : CmdWord} {rest : List CmdWord} {i : Instr} (port : s.commands = w :: rest)
    (decodes : decode w = some i) : step s = exec i { s with commands := rest } := by
  simp [step, State.takeCommand_cons port, decodes]

theorem step_of_reserved {s : State} {w : CmdWord} {rest : List CmdWord} (port : s.commands = w :: rest)
    (reserved : decode w = none) : step s = .next { s with commands := rest }.reject := by
  simp [step, State.takeCommand_cons port, reserved]

theorem exec_next (i : Instr) (s : State) : ∃ t, exec i s = .next t := by
  rw [exec_eq]
  exact ⟨_, rfl⟩

theorem effect_commands (i : Instr) (s : State) : (effect i s).commands = s.commands := by
  cases i <;> simp [effect]

theorem effect_responses (i : Instr) (s : State) : (effect i s).responses = s.responses := by
  cases i <;> simp [effect]

theorem onlyChanges_reject (s : State) : OnlyChanges [.responses] s s.reject := (onlyChanges_refl s).respond .reject

theorem onlyChanges_takeCommand (s : State) (rest : List CmdWord) :
    OnlyChanges [.commands] s { s with commands := rest } := by
  intro p hp
  cases p with
  | commands => exact absurd (List.mem_singleton_self _) hp
  | plane q => intro tile row; cases q <;> rfl
  | tileMap l | attrMap l => intro a; cases l <;> rfl
  | scroll l => cases l <;> exact ⟨rfl, rfl⟩
  | hidden l => cases l <;> rfl
  | palette | spriteTable => exact fun _ => rfl
  | framebuffer => exact fun _ _ => rfl
  | _ => rfl

/-! ### The port: one word taken, one response given -/

/-- Settles O7: the port gives the word, and the decoder the command. -/
theorem stepRunsTheDecodedCommand : Obligations.StepRunsTheDecodedCommand := by
  unfold Obligations.StepRunsTheDecodedCommand
  exact fun _ _ _ _ port decodes => step_of_decode port decodes

/-- Settles O8: idle, reserved or decoded, none of the three cases of a step stops. -/
theorem everyStepAnswersANextState : Obligations.EveryStepAnswersANextState := by
  unfold Obligations.EveryStepAnswersANextState
  intro s
  cases port : s.commands with
  | nil => exact ⟨s, step_of_idle port⟩
  | cons w rest =>
    cases word : decode w with
    | none => exact ⟨_, step_of_reserved port word⟩
    | some i =>
      rw [step_of_decode port word]
      exact exec_next i _

/-- Settles O9: the port gives no word. -/
theorem idlePortHoldsTheState : Obligations.IdlePortHoldsTheState := by
  unfold Obligations.IdlePortHoldsTheState
  exact fun _ idle => step_of_idle idle

/-- Settles O10: a reserved word does not decode; the port is taken from, then the refusal responds. -/
theorem reservedWordIsRefused : Obligations.ReservedWordIsRefused := by
  unfold Obligations.ReservedWordIsRefused
  intro s w rest port reserved
  exact ⟨_, step_of_reserved port ((decode_eq_none_iff_reservedWord w).mpr reserved), rfl, rfl,
    (onlyChanges_takeCommand s rest).respond .reject⟩

/-- Settles O11: the refusal is a response after no change at all. -/
theorem rejectChangesNothing : Obligations.RejectChangesNothing := by
  unfold Obligations.RejectChangesNothing
  exact fun s => ⟨rfl, onlyChanges_reject s⟩

/-- Settles O12: `performIf` at an illegal command. -/
theorem illegalOperandsAreRefused : Obligations.IllegalOperandsAreRefused := by
  unfold Obligations.IllegalOperandsAreRefused
  exact fun _ s illegal => exec_of_not_wellFormed illegal s

/-- Settles O14: a legal command has its effect, which leaves the port alone, and then responds. -/
theorem everyLegalCommandIsPerformed : Obligations.EveryLegalCommandIsPerformed := by
  unfold Obligations.EveryLegalCommandIsPerformed
  intro i s legal
  exact ⟨_, answer i s, exec_of_wellFormed legal s, by simp [effect_responses], answer_ne_reject i s,
    effect_commands i s⟩

/-- Settles O13: the step refuses the word or runs the legal command it decodes to. -/
theorem eachCommandHasOneResponse : Obligations.EachCommandHasOneResponse := by
  unfold Obligations.EachCommandHasOneResponse
  intro s w rest port
  cases word : decode w with
  | none => exact ⟨_, .reject, step_of_reserved port word, rfl, rfl, rfl⟩
  | some i =>
    have run := exec_of_wellFormed (wellFormed_of_decode word) { s with commands := rest }
    exact ⟨_, answer i { s with commands := rest }, (step_of_decode port word).trans run, effect_commands i _,
      by simp [effect_responses], answer_cases i _⟩

/-! ### What one command only writes, and what a second run writes -/

theorem framebuffer_mem_writtenPieces {i : Instr} (h : .framebuffer ∈ writtenPieces i) : i = .renderFrame := by
  cases i with
  | renderFrame => rfl
  | _ => simp [writtenPieces] at h

theorem hidden_mem_writtenPieces {l : LayerId} {i : Instr} (h : .hidden l ∈ writtenPieces i) :
    ∃ flag, i = .setHidden l flag := by
  cases i with
  | setHidden k flag =>
    obtain rfl : l = k := by simpa [writtenPieces] using h
    exact ⟨flag, rfl⟩
  | _ => simp [writtenPieces] at h

theorem hideSprites_mem_writtenPieces {i : Instr} (h : .hideSprites ∈ writtenPieces i) :
    ∃ flag, i = .setHideSprites flag := by
  cases i with
  | setHideSprites flag => exact ⟨flag, rfl⟩
  | _ => simp [writtenPieces] at h

theorem writtenPieces_of_read {i : Instr} (read : isReadCommand i = true) : writtenPieces i = [] := by
  cases i with
  | peekTile | peekAttr | readPixel | readPixelArgb => rfl
  | _ => cases read

/-- Settles O33: the framebuffer is a piece of `RENDER_FRAME` alone. -/
theorem onlyTheRendererWritesTheFramebuffer : Obligations.OnlyTheRendererWritesTheFramebuffer := by
  unfold Obligations.OnlyTheRendererWritesTheFramebuffer
  intro i s t run notRender
  refine onlyChanges_of_exec run .framebuffer fun written => notRender ?_
  exact framebuffer_mem_writtenPieces (by simpa using written)

/-- Settles O34: each flag is a piece of its own command alone. -/
theorem flagsChangeOnlyByTheirOwnCommands : Obligations.FlagsChangeOnlyByTheirOwnCommands := by
  unfold Obligations.FlagsChangeOnlyByTheirOwnCommands
  intro i s t run
  constructor
  · intro l notSet
    refine onlyChanges_of_exec run (.hidden l) fun written => ?_
    obtain ⟨flag, rfl⟩ := hidden_mem_writtenPieces (by simpa using written)
    exact notSet flag rfl
  · intro notSet
    refine onlyChanges_of_exec run .hideSprites fun written => ?_
    obtain ⟨flag, rfl⟩ := hideSprites_mem_writtenPieces (by simpa using written)
    exact notSet flag rfl

/-- Settles O35: a read command has no pieces; effect and response are the same at a second run, and so is a refusal. -/
theorem repeatingACommandChangesNothingMore : Obligations.RepeatingACommandChangesNothingMore := by
  unfold Obligations.RepeatingACommandChangesNothingMore
  constructor
  · intro i s t read run
    have frame := onlyChanges_of_exec run
    rwa [writtenPieces_of_read read] at frame
  · intro i s t run
    obtain ⟨legal, rfl⟩ | ⟨illegal, rfl⟩ := performIf_next ((exec_eq i s).symm.trans run)
    · refine ⟨answer i s, by simp [effect_responses], ?_⟩
      rw [exec_of_wellFormed legal, effect_respond, effect_effect, answer_respond, answer_effect]
    · exact ⟨.reject, rfl, exec_of_not_wellFormed illegal _⟩

end Sys2Proof.Machine
end

section
/-! SUPPORT. The invariant (R22, R36; logs 13, 14, 16): it holds at reset, every update of the state keeps it, and so
does every command and every step. -/

namespace Sys2Proof.Machine

open Sys2Proof

/-! ### The updates that keep the invariant -/

section
variable {s : State} (h : s.Inv)
include h

/-- The port is no part of the invariant. -/
theorem State.Inv.takeCommand (rest : List CmdWord) : { s with commands := rest }.Inv := { h with }

theorem State.Inv.respond (r : Response) : (s.respond r).Inv := { h with }

theorem State.Inv.setBgcolor (v : BitVec 6) : (s.setBgcolor v).Inv := { h with }

theorem State.Inv.setHideSpritesFlag (flag : Bool) : (s.setHideSpritesFlag flag).Inv := { h with }

theorem State.Inv.setPal (i : BitVec 6) (c : Color) : (s.setPal i c).Inv :=
  { h with palette := Memory_wf_write _ _ _ _ i.isLt h.palette }

theorem State.Inv.setSprite (i : Byte) (e : Sprite) : (s.setSprite i e).Inv :=
  { h with sprites := Memory_wf_write _ _ _ _ i.isLt h.sprites }

/-- A rendered frame is a whole one. -/
theorem State.Inv.setFrame_renderedFrame : (s.setFrame s.renderedFrame).Inv := by
  have whole : ∀ row ∈ s.renderedFrame, row.length = Config.screenWidth := by
    intro row hrow
    obtain ⟨y, -, rfl⟩ := List.mem_map.mp hrow
    exact renderLine_length s _
  exact { h with frame := .inr ⟨renderedFrame_length s, whole⟩ }

theorem State.Inv.setTile (p : PlaneId) (t : Byte) (r : BitVec 3) (v : Byte) : (s.setTile p t r v).Inv := by
  constructor
  case tiles =>
    intro q
    rw [State.setTile, State.setPlane_plane]
    split
    · exact Memory_wf_write _ _ _ _ (tileKey_lt t r) (h.tiles p)
    · exact h.tiles q
  case palette => simpa using h.palette
  case maps => simpa using h.maps
  case attrs => simpa using h.attrs
  case sprites => simpa using h.sprites
  case frame => simpa using h.frame
  case absent => simpa using h.absent

/-- A layer the PPU has may be replaced by one whose grids are in canonical form. -/
theorem State.Inv.setLayer {l : LayerId} {b : Layer} (present : l.present = true)
    (map : Memory.wf resetTileIndex 1024 b.map = true) (attr : Memory.wf resetAttributes 1024 b.attr = true) :
    (s.setLayer l b).Inv := by
  constructor
  case maps =>
    intro k
    rw [State.setLayer_layer]
    split
    · exact map
    · exact h.maps k
  case attrs =>
    intro k
    rw [State.setLayer_layer]
    split
    · exact attr
    · exact h.attrs k
  case absent =>
    intro k absent
    have other : k ≠ l := fun e => by simp [e, present] at absent
    simpa [other] using h.absent k absent
  case palette => simpa using h.palette
  case tiles => simpa using h.tiles
  case sprites => simpa using h.sprites
  case frame => simpa using h.frame

/-- Every legal command keeps the invariant: it writes one key of one memory, a register, or the whole frame. -/
theorem State.Inv.effect {i : Instr} (legal : i.wellFormed = true) : (effect i s).Inv := by
  cases i with
  | pokeTile l tx ty v =>
    exact h.setLayer legal (Memory_wf_write _ _ _ _ (cellAddr tx ty).isLt (h.maps l)) (h.attrs l)
  | pokeAttr l tx ty v =>
    exact h.setLayer legal (h.maps l) (Memory_wf_write _ _ _ _ (cellAddr tx ty).isLt (h.attrs l))
  | setScroll l x y => exact h.setLayer legal (h.maps l) (h.attrs l)
  | setHidden l flag => exact h.setLayer legal (h.maps l) (h.attrs l)
  | setSprite i x y tile attr => exact h.setSprite i _
  | hideSprite i => exact h.setSprite i _
  | setPalette i r g b => exact h.setPal i _
  | setTileRow q tile row v => exact h.setTile q tile row v
  | setBgcolor i => exact h.setBgcolor i
  | setHideSprites flag => exact h.setHideSpritesFlag flag
  | renderFrame => exact h.setFrame_renderedFrame
  | _ => exact h

theorem State.Inv.exec {i : Instr} {t : State} (run : exec i s = .next t) : t.Inv := by
  obtain ⟨legal, rfl⟩ | ⟨-, rfl⟩ := performIf_next ((exec_eq i s).symm.trans run)
  · exact (h.effect legal).respond _
  · exact h.respond .reject

end

/-- Settles O36: the memories list nothing, there is no frame, and every layer is as reset leaves it. -/
theorem resetMeetsTheInvariant : Obligations.ResetMeetsTheInvariant := by
  unfold Obligations.ResetMeetsTheInvariant
  constructor
  case tiles => intro p; cases p <;> rfl
  case maps | attrs => intro l; cases l <;> rfl
  case absent => intro l _; cases l <;> rfl
  case frame => exact .inl rfl
  case palette | sprites => rfl

/-- Settles O37: an idle step changes nothing, a refused word the port only, and a command keeps the invariant. -/
theorem stepKeepsTheInvariant : Obligations.StepKeepsTheInvariant := by
  unfold Obligations.StepKeepsTheInvariant
  intro s t inv run
  cases port : s.commands with
  | nil =>
    obtain rfl := Host.Outcome.next.inj ((step_of_idle port).symm.trans run)
    exact inv
  | cons w rest =>
    have taken := inv.takeCommand rest
    cases word : decode w with
    | none =>
      obtain rfl := Host.Outcome.next.inj ((step_of_reserved port word).symm.trans run)
      exact taken.respond .reject
    | some i => exact taken.exec ((step_of_decode port word).symm.trans run)

end Sys2Proof.Machine
end

section
/-! SUPPORT. Single commands (R217, R219, R220, R221, R224, R225): what a row byte shows, a colour as a number, and the
statements about sprites hidden, tile rows, registers and pixels read. -/

namespace Sys2Proof.Machine

open Sys2Proof

/-! ### Raw pixels and colours as numbers (R95, R123, R186) -/

theorem getLsbD_rawPixel (b0 b1 b2 : Bool) : (rawPixel b0 b1 b2).getLsbD 2 = b0 ∧
    (rawPixel b0 b1 b2).getLsbD 1 = b1 ∧ (rawPixel b0 b1 b2).getLsbD 0 = b2 := by
  revert b0 b1 b2
  decide

/-- Plane `p` supplies bit `2 - p` of the raw pixel: column `x` of its row byte. -/
theorem getLsbD_storedPixel (s : State) (p : PlaneId) (t : Byte) (x y : BitVec 3) :
    (s.storedPixel t x y).getLsbD (2 - (planeBits p).toNat) = (s.tileAt p t y).getLsbD x.toNat := by
  obtain ⟨bit2, bit1, bit0⟩ := getLsbD_rawPixel (rowPixel (s.tileAt .plane0 t y) x)
    (rowPixel (s.tileAt .plane1 t y) x) (rowPixel (s.tileAt .plane2 t y) x)
  cases p with
  | plane0 => exact bit2
  | plane1 => exact bit1
  | plane2 => exact bit0

theorem toNat_append_byte {n : Nat} (v : BitVec n) (b : Byte) : (v ++ b).toNat = v.toNat * 256 + b.toNat := by
  rw [BitVec.toNat_append, ← Nat.shiftLeft_add_eq_or_of_lt b.isLt, Nat.shiftLeft_eq]

theorem toNat_colorBits (c : Color) : (colorBits c).toNat = c.r.toNat * 65536 + c.g.toNat * 256 + c.b.toNat := by
  rw [colorBits, toNat_append_byte, toNat_append_byte]
  omega

theorem toNat_toArgb (c : Color) :
    (toArgb c).toNat = 0xFF000000 + c.r.toNat * 65536 + c.g.toNat * 256 + c.b.toNat := by
  rw [toArgb, toNat_append_byte, toNat_append_byte, toNat_append_byte, BitVec.toNat_ofNat]
  omega

/-! ### Write commands -/

/-- Settles O20: the entry just written differs from the old one in `y`, and there is below every scanline. -/
theorem hideSpriteMovesTheSpriteOffScreen : Obligations.HideSpriteMovesTheSpriteOffScreen := by
  unfold Obligations.HideSpriteMovesTheSpriteOffScreen
  intro idx s
  have written : (effect (.hideSprite idx) s).spriteAt idx =
      { s.spriteAt idx with y := BitVec.ofNat 8 Config.screenHeight } := by
    simp [effect, State.spriteAt_setSprite]
  have below : ((effect (.hideSprite idx) s).spriteAt idx).y.toNat = Config.screenHeight := by
    rw [written]
    rfl
  refine ⟨(effect (.hideSprite idx) s).respond .ok, rfl, below, ?_, ?_, ?_, ?_, rfl,
    (onlyChanges_setSprite s idx _).respond .ok, fun line visible => notMem_gather_of_screenHeight below visible⟩
  · simp [written]
  · simp [written]
  · simp [written]
  · intro i other
    simp [effect, State.spriteAt_setSprite, other]

/-- Settles O22: the row byte just written, and the raw pixel's bit that is the plane's. -/
theorem setTileRowWritesOneRowByte : Obligations.SetTileRowWritesOneRowByte := by
  unfold Obligations.SetTileRowWritesOneRowByte
  intro plane tile row data s
  have written : ((s.setTile plane tile row data).respond .ok).tileAt plane tile row = data := by
    simp [State.tileAt_setTile]
  refine ⟨(s.setTile plane tile row data).respond .ok, rfl, written, ?_, by simp,
    (onlyChanges_setTile s plane tile row data).respond .ok, ?_⟩
  · intro u k other
    simp [State.tileAt_setTile, other]
  · intro x
    rw [getLsbD_storedPixel, written]

/-- Settles O23: the register is a piece of its own. -/
theorem setBgcolorWritesTheRegister : Obligations.SetBgcolorWritesTheRegister := by
  unfold Obligations.SetBgcolorWritesTheRegister
  exact fun pidx s => ⟨(s.setBgcolor pidx).respond .ok, rfl, rfl, rfl, (onlyChanges_setBgcolor s pidx).respond .ok⟩

/-- Settles O24: the flag is a piece of its own. -/
theorem setHideSpritesWritesTheFlag : Obligations.SetHideSpritesWritesTheFlag := by
  unfold Obligations.SetHideSpritesWritesTheFlag
  exact fun flag s =>
    ⟨(s.setHideSpritesFlag flag).respond .ok, rfl, rfl, rfl, (onlyChanges_setHideSpritesFlag s flag).respond .ok⟩

/-! ### Pixels read -/

/-- After a render a pixel on the screen is the one composed from the state the render found (R187, R188). -/
theorem pixelAt_renderedFrame_eq_shownColor (s : State) {x y : Byte} (visible : onScreen x y = true) :
    (s.setFrame s.renderedFrame).pixelAt x y = s.shownColor x y := by
  rw [pixelAt_setFrame_renderedFrame s x y visible, State.topIndex, getTopPixel_layerHits, State.shownColor]

/-- Settles O27: the response is the 24-bit field, which zero-extending does not change. -/
theorem readPixelRespondsWithTheColor : Obligations.ReadPixelRespondsWithTheColor := by
  unfold Obligations.ReadPixelRespondsWithTheColor
  intro x y s
  refine ⟨_, _, rfl, rfl, (onlyChanges_refl s).respond _, ?_⟩
  rw [BitVec.toNat_setWidth_of_le (by decide), toNat_colorBits]

/-- Settles O28: the response is the packed word. -/
theorem readPixelArgbRespondsWithThePackedWord : Obligations.ReadPixelArgbRespondsWithThePackedWord := by
  unfold Obligations.ReadPixelArgbRespondsWithThePackedWord
  exact fun x y s => ⟨_, _, rfl, rfl, (onlyChanges_refl s).respond _, toNat_toArgb _⟩

/-- Settles O29: the render leaves the arbiter's colour at every pixel on the screen, and the read responds with it. -/
theorem readPixelAfterRenderGivesTheRenderedColor : Obligations.ReadPixelAfterRenderGivesTheRenderedColor := by
  unfold Obligations.ReadPixelAfterRenderGivesTheRenderedColor
  intro x y s t visible run
  obtain rfl := Host.Outcome.next.inj ((exec_of_wellFormed (i := .renderFrame) rfl s).symm.trans run)
  refine ⟨_, exec_of_wellFormed (i := .readPixel x y) visible _, ?_⟩
  simp [effect, answer, readValue, pixelAt_renderedFrame_eq_shownColor s visible]

end Sys2Proof.Machine
end

section
/-! SUPPORT. Data formats and the tile decoder (R10, R38, R90, R92, R122, R123): fields as numbers, and what flipping
does to the column and row read. -/

namespace Sys2Proof.Machine

open Sys2Proof

/-! ### Bits and fields as numbers -/

theorem toNat_getLsbD {n : Nat} (v : BitVec n) (i : Nat) : (v.getLsbD i).toNat = v.toNat / 2 ^ i % 2 :=
  Nat.toNat_testBit v.toNat i

theorem toNat_attrPrio (a : Byte) : (attrPrio a).toNat = a.toNat / 64 := by
  have := a.isLt
  simp only [attrPrio, BitVec.extractLsb'_toNat, Nat.shiftRight_eq_div_pow]
  omega

theorem toNat_attrSub (a : Byte) : (attrSub a).toNat = a.toNat % 8 := by
  simp [attrSub]

theorem toNat_rawPixel (b0 b1 b2 : Bool) : (rawPixel b0 b1 b2).toNat = b0.toNat * 4 + b1.toNat * 2 + b2.toNat := by
  revert b0 b1 b2
  decide

/-- The index of a hit is an entry of the palette that is no first entry of a subpalette (R92). -/
theorem hitIndex_range (sub : BitVec 3) {raw : BitVec 3} (opaqueRaw : raw ≠ 0#3) :
    1 ≤ (hitIndex sub raw).toNat ∧ (hitIndex sub raw).toNat ≤ 63 ∧ (hitIndex sub raw).toNat % 8 ≠ 0 := by
  have nonzero : raw.toNat ≠ 0 := fun e => opaqueRaw (BitVec.eq_of_toNat_eq e)
  have := sub.isLt
  have := raw.isLt
  rw [toNat_hitIndex]
  omega

/-- Settles O39: each field is a quotient or a remainder of the byte. -/
theorem attributeByteIsItsFields : Obligations.AttributeByteIsItsFields := by
  unfold Obligations.AttributeByteIsItsFields
  intro a
  rw [toNat_attrPrio, toNat_attrSub, attrFlipY, attrFlipX, attrFlipDiag, toNat_getLsbD, toNat_getLsbD, toNat_getLsbD]
  omega

/-- Settles O40: the three operations in exact arithmetic. -/
theorem coordinateArithmeticWraps : Obligations.CoordinateArithmeticWraps := by
  unfold Obligations.CoordinateArithmeticWraps
  exact fun a b => ⟨toNat_sub8 a b, toNat_div8 a, toNat_mod8 a⟩

/-- Settles O41: no sum wraps; an opaque raw pixel is the remainder by 8. -/
theorem hitIndexIsSubpaletteTimesEightPlusRaw : Obligations.HitIndexIsSubpaletteTimesEightPlusRaw := by
  unfold Obligations.HitIndexIsSubpaletteTimesEightPlusRaw
  exact fun sub raw => ⟨toNat_hitIndex sub raw, hitIndex_range sub⟩

/-- Settles O44: the three bits with their weights, each a quotient of its row byte. -/
theorem rawPixelCombinesThePlanes : Obligations.RawPixelCombinesThePlanes := by
  unfold Obligations.RawPixelCombinesThePlanes
  intro s t x y
  simp only [State.storedPixel, toNat_rawPixel, rowPixel, toNat_getLsbD]

/-! ### The reset image (R38) -/

theorem reset_tileAt (p : PlaneId) (t : Byte) (r : BitVec 3) : State.reset.tileAt p t r = 0#8 := by cases p <;> rfl

theorem reset_spriteAt (i : Byte) : State.reset.spriteAt i = resetSprite := rfl

/-- Settles O38: an entry that no memory lists reads as its reset contents. -/
theorem resetImage : Obligations.ResetImage := by
  unfold Obligations.ResetImage
  refine ⟨fun _ => rfl, reset_tileAt, fun l a => ⟨reset_mapAt l a, reset_attrAt l a, ?_⟩, fun l => ?_,
    fun i => ⟨reset_spriteAt i, ?_⟩, rfl, rfl, fun _ _ => rfl, rfl, rfl⟩
  · rw [reset_attrAt]
    rfl
  · cases l <;> exact ⟨rfl, rfl, rfl⟩
  · rw [reset_spriteAt]
    decide

/-! ### Flips (R122, R125) -/

theorem mod8_seven_sub (v : Byte) : mod8 (7#8 - v) = flip3 (mod8 v) := by
  apply BitVec.eq_of_toNat_eq
  have := v.isLt
  simp only [toNat_mod8, flip3, BitVec.toNat_sub, BitVec.toNat_ofNat]
  omega

/-- The flips are those of bits 5:3. -/
theorem flips_eq_of_flipField_eq {a b : Byte} (h : a.extractLsb' 3 3 = b.extractLsb' 3 3) :
    attrFlipY a = attrFlipY b ∧ attrFlipX a = attrFlipX b ∧ attrFlipDiag a = attrFlipDiag b := by
  rw [flipField_eq, flipField_eq] at h
  generalize attrFlipY a = ya, attrFlipX a = xa, attrFlipDiag a = da, attrFlipY b = yb, attrFlipX b = xb,
    attrFlipDiag b = db at h ⊢
  revert ya xa da yb xb db
  decide

theorem getRawPixel_congr_flips (s : State) (t : Byte) {a b : Byte} (h : a.extractLsb' 3 3 = b.extractLsb' 3 3)
    (lx ly : Byte) : s.getRawPixel t a lx ly = s.getRawPixel t b lx ly := by
  obtain ⟨flipY, flipX, flipDiag⟩ := flips_eq_of_flipField_eq h
  simp only [State.getRawPixel, applyFlips, flipY, flipX, flipDiag]

theorem getRawPixel_setFlipX (s : State) (t a lx ly : Byte) :
    s.getRawPixel t (a ||| 0x10#8) lx ly = s.getRawPixel t (a &&& ~~~0x10#8) (7#8 - lx) ly := by
  simp [State.getRawPixel, applyFlips, attrFlipX, attrFlipY, attrFlipDiag, mod8_seven_sub]

theorem getRawPixel_setFlipY (s : State) (t a lx ly : Byte) :
    s.getRawPixel t (a ||| 0x20#8) lx ly = s.getRawPixel t (a &&& ~~~0x20#8) lx (7#8 - ly) := by
  simp [State.getRawPixel, applyFlips, attrFlipX, attrFlipY, attrFlipDiag, mod8_seven_sub]

/-- Settles O43: `7 - v` keeps its low bits under reduction, and the flips are bits 5:3. -/
theorem flipIdentities : Obligations.FlipIdentities := by
  unfold Obligations.FlipIdentities
  exact ⟨fun s t a lx ly _ => getRawPixel_setFlipX s t a lx ly, fun s t a lx ly _ => getRawPixel_setFlipY s t a lx ly,
    fun _ _ _ _ => rfl, fun s t _ _ lx ly h => getRawPixel_congr_flips s t h lx ly⟩

end Sys2Proof.Machine
end

section
/-! SUPPORT. Layers and sprites (R140 to R168): the range of a hit's index, toroidal scrolling, and the walk of the
gathered list as a search of the whole table in its order. -/

namespace Sys2Proof.Machine

open Sys2Proof

/-! ### Hits of layers and sprites -/

/-- A layer's hit is some raw pixel shown through `colorize`. -/
theorem colorize_of_layerHit {s : State} {l : LayerId} {sx sy : Byte} {h : Hit} (hit : s.layerHit l sx sy = some h) :
    ∃ a raw, colorize a raw = some h := by
  unfold State.layerHit at hit
  split at hit
  · cases hit
  · exact ⟨_, _, hit⟩

theorem colorize_of_spritePixel {s : State} {e : Sprite} {sx line : Byte} {h : Hit}
    (hit : s.spritePixel e sx line = some h) : ∃ a raw, colorize a raw = some h := by
  unfold State.spritePixel at hit
  split at hit
  · exact ⟨_, _, hit⟩
  · cases hit

/-- `sprite_hit` is the first hit in the list (R162). -/
theorem spriteHit_eq_findSome? (s : State) (g : List Byte) (sx line : Byte) :
    s.spriteHit g sx line = g.findSome? fun i => s.spritePixel (s.spriteAt i) sx line := by
  induction g with
  | nil => rfl
  | cons i g ih =>
    rw [State.spriteHit, List.findSome?_cons, ih]
    cases s.spritePixel (s.spriteAt i) sx line <;> rfl

theorem color_range_of_colorize {a : Byte} {raw : BitVec 3} {h : Hit} (hit : colorize a raw = some h) :
    1 ≤ h.color.toNat ∧ h.color.toNat ≤ 63 ∧ h.color.toNat % 8 ≠ 0 := by
  obtain ⟨opaqueRaw, rfl⟩ := (colorize_eq_some a raw h).mp hit
  exact hitIndex_range (attrSub a) opaqueRaw

theorem color_range_of_layerHit {s : State} {l : LayerId} {sx sy : Byte} {h : Hit}
    (hit : s.layerHit l sx sy = some h) : 1 ≤ h.color.toNat ∧ h.color.toNat ≤ 63 ∧ h.color.toNat % 8 ≠ 0 := by
  obtain ⟨a, raw, shown⟩ := colorize_of_layerHit hit
  exact color_range_of_colorize shown

theorem color_range_of_spriteHit {s : State} {g : List Byte} {sx line : Byte} {h : Hit}
    (hit : s.spriteHit g sx line = some h) : 1 ≤ h.color.toNat ∧ h.color.toNat ≤ 63 ∧ h.color.toNat % 8 ≠ 0 := by
  rw [spriteHit_eq_findSome?] at hit
  obtain ⟨i, -, pixel⟩ := List.exists_of_findSome?_eq_some hit
  obtain ⟨a, raw, shown⟩ := colorize_of_spritePixel pixel
  exact color_range_of_colorize shown

/-- Settles O48: both sides are the unscrolled layer at the same difference of position and scroll. -/
theorem scrollingIsToroidal : Obligations.ScrollingIsToroidal := by
  unfold Obligations.ScrollingIsToroidal
  intro s l x y dx dy sx sy
  have unscrolled (u v : Byte) : (s.setScroll l u v).setScroll l 0#8 0#8 = s.setScroll l 0#8 0#8 := by
    simp [State.setScroll, setLayer_setLayer]
  rw [layerHit_eq_unscrolled, layerHit_eq_unscrolled (s.setScroll l x y), unscrolled, unscrolled]
  simp

/-- Settles O49: every hit comes of an opaque raw pixel. -/
theorem hitsNeverSelectARawZeroEntry : Obligations.HitsNeverSelectARawZeroEntry := by
  unfold Obligations.HitsNeverSelectARawZeroEntry
  exact ⟨fun _ _ _ _ _ hit => color_range_of_layerHit hit, fun _ _ _ _ _ hit => color_range_of_spriteHit hit⟩

/-- Settles O50: a layer above all others that hits nothing does not show. -/
theorem absentLayersNeverWin : Obligations.AbsentLayersNeverWin := by
  unfold Obligations.AbsentLayersNeverWin
  exact getTopPixel_layerHits

/-! ### Sprites in table order -/

/-- Filtering first finds the same as testing at each entry. -/
theorem findSome?_filter {α β : Type} (p : α → Bool) (f : α → Option β) (l : List α) :
    (l.filter p).findSome? f = l.findSome? fun a => if p a then f a else none := by
  induction l with
  | nil => rfl
  | cons a l ih => cases h : p a <;> simp [List.findSome?_cons, h, ih]

/-- The two-phase walk is the search of the whole table, in its order, for an opaque sprite (R160). -/
theorem spriteHit_gather (s : State) (sx line : Byte) :
    s.spriteHit (s.gather line) sx line = oamIndices.findSome? fun i => s.opaqueSprite i sx line := by
  rw [spriteHit_eq_findSome?, State.gather, findSome?_filter]
  rfl

/-- In an ascending list the first find is that of the lowest member. -/
theorem findSome?_oamIndices_eq_some_iff {β : Type} (f : Byte → Option β) (b : β) :
    oamIndices.findSome? f = some b ↔ ∃ i, f i = some b ∧ ∀ j : Byte, j.toNat < i.toNat → f j = none := by
  rw [List.findSome?_eq_some_iff]
  constructor
  · rintro ⟨l₁, i, l₂, split, found, before⟩
    refine ⟨i, found, fun j lt => ?_⟩
    have mem := mem_oamIndices j
    have ascending := oamIndices_ascending
    rw [split, List.mem_append, List.mem_cons] at mem
    rw [split, List.pairwise_append, List.pairwise_cons] at ascending
    obtain ⟨-, ⟨after, -⟩, -⟩ := ascending
    obtain mem | rfl | mem := mem
    · exact before j mem
    · exact absurd lt (lt_irrefl _)
    · exact absurd lt (after j mem).not_gt
  · rintro ⟨i, found, before⟩
    obtain ⟨l₁, l₂, split⟩ := List.append_of_mem (mem_oamIndices i)
    have ascending := oamIndices_ascending
    rw [split, List.pairwise_append] at ascending
    obtain ⟨-, -, below⟩ := ascending
    exact ⟨l₁, i, l₂, split, found, fun j hj => before j (below j hj i List.mem_cons_self)⟩

/-- Settles O51: a filter of the ascending table by the box test. -/
theorem gatherListsTheSpritesOnTheLine : Obligations.GatherListsTheSpritesOnTheLine := by
  unfold Obligations.GatherListsTheSpritesOnTheLine
  intro s line
  refine ⟨fun i => ?_, oamIndices_ascending.filter _⟩
  rw [mem_gather, inBox_iff]

/-- Settles O52: filtering first finds what testing at each entry finds. -/
theorem gatheringDoesNotChangeTheSpriteHit : Obligations.GatheringDoesNotChangeTheSpriteHit := by
  unfold Obligations.GatheringDoesNotChangeTheSpriteHit
  exact spriteHit_gather

/-- Settles O53: the search of the ascending table ends at its lowest find. -/
theorem lowestOpaqueSpriteSuppliesTheHit : Obligations.LowestOpaqueSpriteSuppliesTheHit := by
  unfold Obligations.LowestOpaqueSpriteSuppliesTheHit
  intro s sx line
  rw [spriteHit_gather]
  refine ⟨fun h => findSome?_oamIndices_eq_some_iff _ h, ?_⟩
  simp [List.findSome?_eq_none_iff, mem_oamIndices]

/-- Settles O54: the box of such a sprite does not wrap to a visible line. -/
theorem spriteAtScreenHeightIsNeverGathered : Obligations.SpriteAtScreenHeightIsNeverGathered := by
  unfold Obligations.SpriteAtScreenHeightIsNeverGathered
  exact fun _ _ _ hidden visible => notMem_gather_of_screenHeight hidden visible

end Sys2Proof.Machine
end

section
/-! SUPPORT. The picture (R182, R185, R187): the winner among the layers, the palette entry a pixel shows, and the frame
of transparent tiles. -/

namespace Sys2Proof.Machine

open Sys2Proof

/-- Settles O31: no step of the render reads another piece. -/
theorem frameDependsOnlyOnTheTables : Obligations.FrameDependsOnlyOnTheTables := by
  unfold Obligations.FrameDependsOnlyOnTheTables
  exact fun _ _ same => renderedFrame_of_same same

/-! ### The winner among the layers -/

/-- At a level without the sprite, the layer of that priority with none of it above wins (R182, decision D5). -/
theorem winnerAtLevel_of_highest {sh : Option Hit} {hits : List (Option Hit)} {l : Nat} {b : Hit}
    (place : hits[l]? = some (some b)) (sprite : ∀ h, sh = some h → h.prio ≠ b.prio)
    (above : ∀ k c, l < k → hits[k]? = some (some c) → c.prio ≠ b.prio) :
    winnerAtLevel sh hits b.prio = some b.color := by
  have noSprite : hitAtLevel b.prio sh = none := (hitAtLevel_eq_none _ _).mpr sprite
  obtain ⟨lt, here⟩ := List.getElem?_eq_some_iff.mp place
  have split : hits = hits.take l ++ some b :: hits.drop (l + 1) := by
    rw [← here, List.getElem_cons_drop, List.take_append_drop]
  have order : layerOrder hits = (hits.drop (l + 1)).reverse ++ some b :: (hits.take l).reverse := by
    rw [layerOrder]
    conv_lhs => rw [split]
    simp
  rw [winnerAtLevel, noSprite]
  refine List.findSome?_eq_some_iff.mpr ⟨_, _, _, order, by simp [hitAtLevel], fun o ho => ?_⟩
  obtain ⟨k, hk⟩ := List.mem_iff_getElem?.mp (List.mem_reverse.mp ho)
  rw [List.getElem?_drop] at hk
  rw [hitAtLevel_eq_none]
  rintro c rfl
  exact above _ c (by omega) hk

/-- Settles O56: the member wins at its own level, and no level above has a hit. -/
theorem highestLayerOfHighestPriorityWins : Obligations.HighestLayerOfHighestPriorityWins := by
  unfold Obligations.HighestLayerOfHighestPriorityWins
  intro s sh hits l b place sprite layers
  refine getTopPixel_of_winner s sh hits b.prio b.color (winnerAtLevel_of_highest place ?_ ?_) fun m higher => ?_
  · exact fun h visible same => (sprite h visible).ne (congrArg BitVec.toNat same)
  · intro k c lt hit same
    obtain lower | ⟨-, le⟩ := layers k c hit
    · exact lower.ne (congrArg BitVec.toNat same)
    · exact le.not_gt lt
  · rw [winnerAtLevel_eq_none]
    constructor
    · rintro h visible rfl
      exact (sprite h visible).not_gt higher
    · rintro c mem rfl
      obtain ⟨k, hit⟩ := List.mem_iff_getElem?.mp mem
      obtain lower | ⟨same, -⟩ := layers k c hit
      · exact lower.not_gt higher
      · exact higher.ne (congrArg BitVec.toNat same.symm)

/-! ### The palette entry a pixel shows -/

theorem visibleSprite_eq_some {s : State} {sh : Option Hit} {h : Hit} (visible : s.visibleSprite sh = some h) :
    sh = some h := by
  unfold State.visibleSprite at visible
  split at visible
  · cases visible
  · exact visible

theorem layerHit_of_presentHit {s : State} {l : LayerId} {x y : Byte} {h : Hit} (hit : s.presentHit l x y = some h) :
    s.layerHit l x y = some h := by
  cases present : l.present with
  | true => rwa [presentHit_of_present present] at hit
  | false =>
    rw [presentHit_of_absent present] at hit
    cases hit

theorem mem_layerHits {s : State} {x y : Byte} {h : Hit} (mem : some h ∈ s.layerHits x y) :
    ∃ l, s.layerHit l x y = some h := by
  simp only [State.layerHits, List.mem_cons, List.not_mem_nil, or_false] at mem
  obtain hit | hit | hit := mem
  · exact ⟨.bg0, layerHit_of_presentHit hit.symm⟩
  · exact ⟨.bg1, layerHit_of_presentHit hit.symm⟩
  · exact ⟨.bg2, layerHit_of_presentHit hit.symm⟩

/-- A pixel shows a sprite's hit, a layer's hit, or `BGCOLOR`: each below 64. -/
theorem topIndex_lt (s : State) (g : List Byte) (x y : Byte) : (s.topIndex g x y).toNat < 64 := by
  unfold State.topIndex
  obtain ⟨level, winner⟩ | background := getTopPixel_cases s (s.spriteHit g x y) (s.layerHits x y)
  · obtain ⟨h, sprite | layer, -, color⟩ := hit_of_winnerAtLevel winner
    · obtain ⟨-, le, -⟩ := color_range_of_spriteHit (visibleSprite_eq_some sprite)
      rw [← color]
      omega
    · obtain ⟨l, hit⟩ := mem_layerHits layer
      obtain ⟨-, le, -⟩ := color_range_of_layerHit hit
      rw [← color]
      omega
  · have := s.bgcolor.isLt
    rw [background, BitVec.toNat_setWidth_of_le (by decide)]
    omega

theorem colorOf_eq_palAt (s : State) (c : Byte) : s.colorOf c = s.palAt (BitVec.ofNat 6 c.toNat) := by
  have index : c.extractLsb' 0 6 = BitVec.ofNat 6 c.toNat := by
    apply BitVec.eq_of_toNat_eq
    simp
  rw [State.colorOf, index]

/-- Settles O59: the index is a hit's or `BGCOLOR`'s, and the lookup takes its 6 low bits. -/
theorem shownIndexIsAPaletteEntry : Obligations.ShownIndexIsAPaletteEntry := by
  unfold Obligations.ShownIndexIsAPaletteEntry
  exact fun s g x y => ⟨topIndex_lt s g x y, colorOf_eq_palAt s _⟩

/-! ### Transparent tiles (R38, R39) -/

section
variable {s : State} (blank : ∀ p t r, s.tileAt p t r = 0#8)
include blank

theorem getRawPixel_of_blank (t a lx ly : Byte) : s.getRawPixel t a lx ly = 0#3 := by
  refine (storedPixel_eq_zero_iff s t _ _).mpr fun p => ?_
  rw [blank]
  simp

theorem layerHit_of_blank (l : LayerId) (x y : Byte) : s.layerHit l x y = none := by
  obtain ⟨layer, -⟩ := rawPixelZeroNeverHits
  exact layer s l x y (getRawPixel_of_blank blank ..)

theorem spriteHit_of_blank (g : List Byte) (x y : Byte) : s.spriteHit g x y = none := by
  obtain ⟨-, sprite, -⟩ := rawPixelZeroNeverHits
  rw [spriteHit_eq_findSome?, List.findSome?_eq_none_iff]
  exact fun i _ => sprite s _ x y (getRawPixel_of_blank blank ..)

/-- Where no tile shows anything, no sprite and no layer hits. -/
theorem shownColor_of_blank (x y : Byte) : s.shownColor x y = s.palAt s.bgcolor := by
  have noLayer : ∀ o ∈ s.hitsOfNumLayers x y, o = none := by
    intro o ho
    obtain ⟨l, -, rfl⟩ := List.mem_map.mp ho
    exact layerHit_of_blank blank l x y
  obtain ⟨-, background⟩ := nothingHitShowsTheBackgroundColour s none (s.hitsOfNumLayers x y)
  have noSprite : s.visibleSprite none = none := by simp [State.visibleSprite]
  have index : BitVec.ofNat 6 (s.bgcolor.setWidth 8).toNat = s.bgcolor := by
    rw [BitVec.toNat_setWidth_of_le (by decide), BitVec.ofNat_toNat, BitVec.setWidth_eq]
  rw [State.shownColor, spriteHit_of_blank blank, background ⟨noSprite, noLayer⟩, colorOf_eq_palAt, index]

end

/-- Settles O32: with no hit the background shows; at reset the tiles and the palette are all zeros. -/
theorem transparentTilesShowTheBackground : Obligations.TransparentTilesShowTheBackground := by
  unfold Obligations.TransparentTilesShowTheBackground
  refine ⟨fun s x y blank => shownColor_of_blank blank x y, _, rfl, fun x y visible => ?_⟩
  rw [State.pixelAt_respond, pixelAt_renderedFrame_eq_shownColor _ visible, shownColor_of_blank reset_tileAt]
  rfl

end Sys2Proof.Machine
end
